-- ==== Sys2Proof/Word.lean ====
section
/-!
DEFINITION. The word types of the sampler block and the plain bit arithmetic of `spec/00_scope.md` rules R10 and R11.
-/

namespace Sys2Proof

/-- A 32-bit datapath word (rule R7, `W` = 32). -/
abbrev Word := BitVec 32

/-- One byte of a message payload or of the host status field. -/
abbrev Byte := BitVec 8

/-- `v[i]` of rule R10: bit `i` of a word, false above bit 31. -/
abbrev Word.bit (v : Word) (i : Nat) : Bool := v.getLsbD i

/-- `1 << b`: the mask of bit `b` (rule R87). -/
abbrev Word.mask (b : Nat) : Word := 1#32 <<< b

/-- `zext_32` of one bit (rule R11). -/
abbrev Word.ofBit (b : Bool) : Word := (BitVec.ofBool b).zeroExtend 32

/-- `shl32(v, k)` of rule R11: the logical left shift that drops the bits shifted out. -/
abbrev Word.shl32 (v : Word) (k : Nat) : Word := v <<< k

/-- `asr32(v, k)` of rule R11: the arithmetic right shift. -/
abbrev Word.asr32 (v : Word) (k : Nat) : Word := v.sshiftRight k

/-- `sext_24(v)` of rule R11: the low 24 bits read as two's complement and extended to 32 bits. -/
abbrev Word.sext24 (v : Word) : Word := (v.setWidth 24).signExtend 32

end Sys2Proof
end

