-- ==== Sys2Proof/Syntax.lean ====
section
/-!
DEFINITION. The syntax of the model: the control state codes and host event codes of `spec/30_encoding.md`, the one
inductive `Instr` of all operations of the opcode table, messages, the draws of the environment and the moves of a run.
-/

namespace Sys2Proof

/-! ## Control state codes (rule R80, format STATE5) -/

/-- The 5-bit control state code held in `st` (rule R21). Reserved codes are values of this type too (rule R81). -/
abbrev Ctrl := BitVec 5

abbrev Ctrl.hsWait     : Ctrl := 0x00#5
abbrev Ctrl.hsAnn0     : Ctrl := 0x01#5
abbrev Ctrl.hsAnn1     : Ctrl := 0x02#5
abbrev Ctrl.kickPoll   : Ctrl := 0x03#5
abbrev Ctrl.kickClr    : Ctrl := 0x04#5
abbrev Ctrl.drain      : Ctrl := 0x05#5
abbrev Ctrl.edgePoll   : Ctrl := 0x06#5
abbrev Ctrl.clkIdleLow : Ctrl := 0x07#5
abbrev Ctrl.startTest  : Ctrl := 0x08#5
abbrev Ctrl.clkRise    : Ctrl := 0x09#5
abbrev Ctrl.holdHi     : Ctrl := 0x0A#5
abbrev Ctrl.shiftIn    : Ctrl := 0x0B#5
abbrev Ctrl.clkFall    : Ctrl := 0x0C#5
abbrev Ctrl.holdLo     : Ctrl := 0x0D#5
abbrev Ctrl.signExt    : Ctrl := 0x0E#5
abbrev Ctrl.emit       : Ctrl := 0x0F#5
abbrev Ctrl.send       : Ctrl := 0x10#5
abbrev Ctrl.stbRise    : Ctrl := 0x11#5
abbrev Ctrl.holdStb    : Ctrl := 0x12#5
abbrev Ctrl.stbFall    : Ctrl := 0x13#5

/-! ## Operations -/

/-- The operations of `spec/opcode_table.json`: the 20 block operations (STATE5, rule R80), which take no operands
(rule R86), and the five host actions (HOSTEV3, rule R88) with their arguments. -/
inductive Instr where
  | hsWait
  | hsAnn0
  | hsAnn1
  | kickPoll
  | kickClr
  | drain
  | edgePoll
  | clkIdleLow
  | startTest
  | clkRise
  | holdHi
  | shiftIn
  | clkFall
  | holdLo
  | signExt
  | emit
  | send
  | stbRise
  | holdStb
  | stbFall
  | hStatus (v : Byte)
  | hKick
  | hPush (src dst : Word) (payload : List Byte)
  | hPop
  | hReset
  deriving DecidableEq, Repr

/-! ## Codes as they are given to the decoder -/

/-- The arguments that accompany a host event code (rule R88). -/
inductive HostArgs where
  | none
  | status (v : Byte)
  | message (src dst : Word) (payload : List Byte)
  deriving DecidableEq, Repr, Inhabited

/-- An operation as it is encoded: a STATE5 code, which is the whole operation (rule R80), or a HOSTEV3 code with its
arguments (rule R88). -/
inductive Code where
  | state5 (c : Ctrl)
  | hostEv3 (c : BitVec 3) (args : HostArgs)
  deriving DecidableEq, Repr

/-- Why a code names no operation. -/
inductive DecodeError where
  /-- A reserved STATE5 code 0x14 to 0x1F (rule R81). -/
  | reservedState (c : Ctrl)
  /-- A reserved HOSTEV3 code 5 to 7 (rules R88 and R90). -/
  | reservedHostCode (c : BitVec 3)
  /-- A HOSTEV3 code with arguments that its row of rule R88 does not have. -/
  | badHostArguments (c : BitVec 3)
  deriving DecidableEq, Repr

/-! ## Messages, draws and moves -/

/-- A queued message `{src, dst, payload}` (rules R34, R62, R63). -/
structure Message where
  src     : Word
  dst     : Word
  payload : List Byte
  deriving DecidableEq, Repr

/-- The three draws of one block step (rule R111). -/
structure Draws where
  /-- The external input pin levels of this cycle. -/
  pins  : Word
  /-- Read only by HS_ANN0 and HS_ANN1. -/
  annOk : Bool
  /-- Read only by SEND. -/
  txOk  : Bool
  deriving DecidableEq, Repr, Inhabited

/-- The values a reset draws (rule R260): `prev` and `kick`, and any value for each unobservable register. -/
structure ResetDraw where
  prev   : Bool
  kick   : Bool
  acc    : Word
  n      : BitVec 5
  dly    : Word
  smp    : Word
  batch  : Vector Word 10
  recSrc : Word
  recDst : Word
  deriving DecidableEq, Repr, Inhabited

/-- One move of a run (rule R110): a block step with its draws, or one host action, given by its code and arguments. -/
inductive Move where
  | block (d : Draws)
  | host (c : BitVec 3) (args : HostArgs)
  deriving DecidableEq, Repr

end Sys2Proof
end

