-- ==== Sys2Proof/Config.lean ====
section
/-!
DEFINITION. The configuration record of `spec/00_scope.md` rule R7, its constants, the parameters the spec leaves OPEN,
and the free values the environment draws. Nothing in Lean can prove a value of an opaque constant of this file, so a claim
that names one holds for every value of it.
-/

namespace Sys2Proof

/-! ## Constants the source fixes (rule R7) -/

/-- `NBITS`: data bits of one acquisition. -/
abbrev nbits : Nat := 24
/-- `SX` = W - NBITS: the two shift amounts of SIGN_EXT. -/
abbrev sx : Nat := 8
/-- `BATCH_N`: samples of one batch. -/
abbrev batchN : Nat := 10
/-- `PAYLOAD_LEN` = 4 x BATCH_N: bytes of one outbound payload. -/
abbrev payloadLen : Nat := 40

/-! ## The configuration record (rule R7) -/

/-- The configuration record before any check. Bit positions are plain numbers: `cfg_bits_in_range` bounds them (rule R8). -/
structure RawConfig where
  kickBit  : Nat
  ctrlBit  : Nat
  dataBit  : Nat
  startBit : Nat
  clkBit   : Nat
  stbBit   : Nat
  readyBit : Nat
  tHi      : Word
  tLo      : Word
  tStb     : Word
  txqCap   : Nat
  rxqCap   : Nat
  outInit  : Word
  deriving DecidableEq, Repr

/-! ## The OPEN parameters of the default configuration (log entry 2)

Each has a type whose values are exactly the admitted ones, so that the default configuration passes rule R8's checks
whatever they are. -/

/-- Names `START_BIT`: any of 0..30, which are the positions other than `KICK_BIT` = 31. -/
opaque Config.openStartBit : Fin 31
/-- Numbers the positions of `STB_BIT`: the 31 positions other than `CLK_BIT` = 1, in rising order. -/
opaque Config.openStbSlot : Fin 31
/-- `T_STB`. -/
opaque Config.openTStb : Word
/-- `TXQ_CAP` less one. -/
opaque Config.openTxqCapPred : Nat
/-- `RXQ_CAP` less one. -/
opaque Config.openRxqCapPred : Nat
/-- `OUT_INIT`. -/
opaque Config.openOutInit : Word

/-- The position that slot `k` names when position 1 (`CLK_BIT`) is left out. -/
abbrev Config.skipClk (k : Nat) : Nat := if k = 0 then 0 else k + 1

/-- The default configuration (rule R9): the table of rule R7 with every fixed value, and the OPEN values left open. -/
def RawConfig.default : RawConfig where
  kickBit  := 31
  ctrlBit  := 2
  dataBit  := 2
  startBit := Config.openStartBit.val
  clkBit   := 1
  stbBit   := Config.skipClk Config.openStbSlot.val
  readyBit := 2
  tHi      := 2000#32
  tLo      := 1000#32
  tStb     := Config.openTStb
  txqCap   := Config.openTxqCapPred + 1
  rxqCap   := Config.openRxqCapPred + 1
  outInit  := Config.openOutInit

/-! ## Free values: what the environment chooses (rule R12, `draw`) -/

/-- `prev` after power-on (rule R25: a draw). Log entry 3. -/
opaque Config.powerOnPrev : Bool
/-- `kick` after power-on (rule R30: a draw). Log entry 3. -/
opaque Config.powerOnKick : Bool
/-- `host_status` at launch: any 8-bit value (rule R262). Log entry 6. -/
opaque Config.launchHostStatus : Byte
/-- What the reset at move `t` draws (rule R260). Log entries 3 and 5. -/
opaque Config.resetDraw : Nat → ResetDraw

/-- Whether move `t` is a host action, where no script says (rule R110: every interleaving is admitted). Log entry 8. -/
opaque Config.envIsHost : Nat → Bool
/-- The draws of the block step at move `t` (rule R111). Log entry 7. -/
opaque Config.envDraws : Nat → Draws
/-- Which of the five host actions move `t` is (rule R88). Log entry 8. -/
opaque Config.envHostCode : Nat → Fin 5
/-- The argument of an H_STATUS at move `t` (rule R220). -/
opaque Config.envStatus : Nat → Byte
/-- The endpoint arguments of an H_PUSH at move `t` (rule R222). -/
opaque Config.envSrc : Nat → Word
/-- See `Config.envSrc`. -/
opaque Config.envDst : Nat → Word
/-- The payload argument of an H_PUSH at move `t`: any byte string (rule R62). -/
opaque Config.envPayload : Nat → List Byte

end Sys2Proof
end

