-- ==== Sys2Proof/WellFormed.lean ====
section
/-!
DEFINITION. The checks of the model: the configuration checks of `spec/00_scope.md` rule R8, and which host event codes and
arguments exist (`spec/30_encoding.md` rules R88 and R90). Every term of `Instr` is well-formed, because its operands have no
value outside their widths (rules R86 and R88), so there is no check on `Instr`.
-/

namespace Sys2Proof

/-- The checks of rule R8, under the names the rule gives them. -/
inductive ConfigCheck where
  | bitsInRange
  | kickDistinct
  | outDistinct
  | holdOrder
  | caps
  deriving DecidableEq, Repr

/-- All checks, in rule R8's order. -/
def ConfigCheck.all : List ConfigCheck := [.bitsInRange, .kickDistinct, .outDistinct, .holdOrder, .caps]

/-- Whether a configuration passes one check of rule R8. -/
def RawConfig.passes (c : RawConfig) : ConfigCheck → Bool
  | .bitsInRange =>
      decide (c.kickBit ≤ 31) && decide (c.ctrlBit ≤ 31) && decide (c.dataBit ≤ 31) && decide (c.startBit ≤ 31)
        && decide (c.clkBit ≤ 31) && decide (c.stbBit ≤ 31) && decide (c.readyBit ≤ 7)
  | .kickDistinct =>
      decide (c.kickBit ≠ c.ctrlBit) && decide (c.kickBit ≠ c.dataBit) && decide (c.kickBit ≠ c.startBit)
  | .outDistinct => decide (c.clkBit ≠ c.stbBit)
  | .holdOrder => decide (c.tLo.toNat < c.tHi.toNat)
  | .caps => decide (1 ≤ c.txqCap) && decide (1 ≤ c.rxqCap)

/-- The first check a configuration fails, if any. -/
def RawConfig.failedCheck (c : RawConfig) : Option ConfigCheck := ConfigCheck.all.find? fun k => !c.passes k

/-- A configuration is admitted if it passes every check of rule R8. -/
def RawConfig.admitted (c : RawConfig) : Bool := ConfigCheck.all.all c.passes

/-- A configuration that fails no check is admitted. -/
theorem RawConfig.admitted_of_failedCheck (c : RawConfig) (h : c.failedCheck = none) : c.admitted = true := by
  simpa [RawConfig.admitted, RawConfig.failedCheck] using h

/-- An admitted configuration: the record with the fact that it passes rule R8's checks. A machine has one of these. -/
abbrev Config := { c : RawConfig // c.admitted = true }

/-- The default configuration passes rule R8's checks whatever the OPEN values are. -/
theorem RawConfig.default_admitted : RawConfig.default.admitted = true := by
  have h1 := Config.openStartBit.isLt
  have h2 := Config.openStbSlot.isLt
  simp only [RawConfig.admitted, ConfigCheck.all, RawConfig.default, RawConfig.passes, Config.skipClk, List.all_cons,
    List.all_nil, Bool.and_eq_true, decide_eq_true_eq]
  refine ⟨⟨⟨⟨⟨⟨⟨?_, ?_⟩, ?_⟩, ?_⟩, ?_⟩, ?_⟩, ?_⟩, ⟨⟨?_, ?_⟩, ?_⟩, ?_, ?_, ⟨?_, ?_⟩, ?_⟩ <;> first | omega | (split <;> omega) | decide

/-- The default configuration (rule R9). -/
def Config.default : Config := ⟨RawConfig.default, RawConfig.default_admitted⟩

/-- Whether a host event code with these arguments is one of rule R88's rows. -/
def hostEventExists (c : BitVec 3) : HostArgs → Bool
  | .none => decide (c.toNat = 1) || decide (c.toNat = 3) || decide (c.toNat = 4)
  | .status _ => decide (c.toNat = 0)
  | .message _ _ _ => decide (c.toNat = 2)

/-- A move is well-formed if it is a block step or an existing host action (rule R225: the host has no other move). -/
def Move.wellFormed : Move → Bool
  | .block _ => true
  | .host c args => hostEventExists c args

end Sys2Proof
end

