-- ==== Sys2Proof/Decode.lean ====
section
/-!
DEFINITION. Decoding and encoding (`spec/30_encoding.md` rules R80, R81, R82 and R88), and the reading of one row of
`spec/opcode_table.json` as a number.
-/

namespace Sys2Proof

/-- The row of table R80 whose code equals `st`, with mask 0x1F. Reserved codes name no operation (rule R81). -/
def decodeState5 (c : Ctrl) : Except DecodeError Instr :=
  match c.toNat with
  | 0x00 => .ok .hsWait
  | 0x01 => .ok .hsAnn0
  | 0x02 => .ok .hsAnn1
  | 0x03 => .ok .kickPoll
  | 0x04 => .ok .kickClr
  | 0x05 => .ok .drain
  | 0x06 => .ok .edgePoll
  | 0x07 => .ok .clkIdleLow
  | 0x08 => .ok .startTest
  | 0x09 => .ok .clkRise
  | 0x0A => .ok .holdHi
  | 0x0B => .ok .shiftIn
  | 0x0C => .ok .clkFall
  | 0x0D => .ok .holdLo
  | 0x0E => .ok .signExt
  | 0x0F => .ok .emit
  | 0x10 => .ok .send
  | 0x11 => .ok .stbRise
  | 0x12 => .ok .holdStb
  | 0x13 => .ok .stbFall
  | _ => .error (.reservedState c)

/-- The host action of table R88 with this code and these arguments. Codes 5 to 7 are reserved (rule R88). -/
def decodeHostEv3 (c : BitVec 3) (args : HostArgs) : Except DecodeError Instr :=
  match c.toNat, args with
  | 0, .status v => .ok (.hStatus v)
  | 1, .none => .ok .hKick
  | 2, .message src dst payload => .ok (.hPush src dst payload)
  | 3, .none => .ok .hPop
  | 4, .none => .ok .hReset
  | k, _ => if k < 5 then .error (.badHostArguments c) else .error (.reservedHostCode c)

/-- The operation a code names, or the reason it names none. -/
def decode : Code → Except DecodeError Instr
  | .state5 c => decodeState5 c
  | .hostEv3 c args => decodeHostEv3 c args

/-- The code of an operation (tables R80 and R88). -/
def encode : Instr → Code
  | .hsWait => .state5 Ctrl.hsWait
  | .hsAnn0 => .state5 Ctrl.hsAnn0
  | .hsAnn1 => .state5 Ctrl.hsAnn1
  | .kickPoll => .state5 Ctrl.kickPoll
  | .kickClr => .state5 Ctrl.kickClr
  | .drain => .state5 Ctrl.drain
  | .edgePoll => .state5 Ctrl.edgePoll
  | .clkIdleLow => .state5 Ctrl.clkIdleLow
  | .startTest => .state5 Ctrl.startTest
  | .clkRise => .state5 Ctrl.clkRise
  | .holdHi => .state5 Ctrl.holdHi
  | .shiftIn => .state5 Ctrl.shiftIn
  | .clkFall => .state5 Ctrl.clkFall
  | .holdLo => .state5 Ctrl.holdLo
  | .signExt => .state5 Ctrl.signExt
  | .emit => .state5 Ctrl.emit
  | .send => .state5 Ctrl.send
  | .stbRise => .state5 Ctrl.stbRise
  | .holdStb => .state5 Ctrl.holdStb
  | .stbFall => .state5 Ctrl.stbFall
  | .hStatus v => .hostEv3 0#3 (.status v)
  | .hKick => .hostEv3 1#3 .none
  | .hPush src dst payload => .hostEv3 2#3 (.message src dst payload)
  | .hPop => .hostEv3 3#3 .none
  | .hReset => .hostEv3 4#3 .none

/-- The mnemonic of an operation (rules R88 and R91). -/
def Instr.mnemonic : Instr → String
  | .hsWait => "HS_WAIT"
  | .hsAnn0 => "HS_ANN0"
  | .hsAnn1 => "HS_ANN1"
  | .kickPoll => "KICK_POLL"
  | .kickClr => "KICK_CLR"
  | .drain => "DRAIN"
  | .edgePoll => "EDGE_POLL"
  | .clkIdleLow => "CLK_IDLE_LOW"
  | .startTest => "START_TEST"
  | .clkRise => "CLK_RISE"
  | .holdHi => "HOLD_HI"
  | .shiftIn => "SHIFT_IN"
  | .clkFall => "CLK_FALL"
  | .holdLo => "HOLD_LO"
  | .signExt => "SIGN_EXT"
  | .emit => "EMIT"
  | .send => "SEND"
  | .stbRise => "STB_RISE"
  | .holdStb => "HOLD_STB"
  | .stbFall => "STB_FALL"
  | .hStatus _ => "H_STATUS"
  | .hKick => "H_KICK"
  | .hPush _ _ _ => "H_PUSH"
  | .hPop => "H_POP"
  | .hReset => "H_RESET"

/-- The arguments of a host event whose argument bits are all zero: status 0, or the empty message from 0 to 0. -/
def zeroHostArgs (c : BitVec 3) : HostArgs :=
  match c.toNat with
  | 0 => .status 0#8
  | 2 => .message 0#32 0#32 []
  | _ => .none

/-- Whether a row of the opcode table that has `nbits` bits is a HOSTEV3 row (mask 0x7, three bits) and not a STATE5 row
(mask 0x1F, five bits). Both formats number their codes from 0, so the width is all that tells them apart. Log entry 11. -/
def tableRowIsHost (nbits : Nat) : Bool := decide (nbits < 5)

/-- The code that the number `w` of a table row with `nbits` bits stands for, if it fits the row's format. -/
def tableCode (nbits w : Nat) : Option Code :=
  if tableRowIsHost nbits then
    if w < 8 then some (.hostEv3 (BitVec.ofNat 3 w) (zeroHostArgs (BitVec.ofNat 3 w))) else none
  else
    if w < 32 then some (.state5 (BitVec.ofNat 5 w)) else none

/-- What the decoder reads from a row of the opcode table whose bits are `w`. -/
def decodeTableWord (nbits w : Nat) : Option Instr :=
  match tableCode nbits w with
  | none => none
  | some c => (decode c).toOption

end Sys2Proof
end

