-- ==== Sys2Proof/Machine/State.lean ====
section
/-!
DEFINITION. The state of the system (`spec/10_state.md` rules R20 to R38), the reasons a run can stop, and the machine right
after reset (`spec/70_reset_and_hazards.md` rules R260 and R262).
-/

namespace Sys2Proof.Machine

/-- A model fault of rule R241: the model's verdict on a state that no admitted run reaches. `raise Fault(r)` records it in
the field `fault` (rule R242); from then on a block step answers `Outcome.fault r`, because the block has no step (log entry 10).
All three are safe: the block of the spec has no step there either. -/
inductive Fault where
  /-- `st` holds a reserved code 0x14..0x1F. Raised by the block step (rules R81 and R111). Safe. -/
  | illegalState (code : Ctrl)
  /-- EMIT with `idx >= 10` or SEND with `idx != 10`. Raised by these two (rules R200 and R201). Safe. -/
  | badIndex (idx : BitVec 4)
  /-- More than 24 bits at the end of a bit. Raised by `after_lo()` in CLK_FALL and HOLD_LO (rule R161). Safe. -/
  | badCounter (n : BitVec 5)
  deriving DecidableEq, Repr

/-- What the model turns away. -/
inductive Refusal where
  /-- An instruction that has no meaning in the model. Raised by no instruction of this model. Safe. -/
  | notModelled (mnemonic : String)
  /-- A host move with a reserved HOSTEV3 code 5..7 (rules R88 and R90). Raised by the host move of a step. Safe. -/
  | reservedHostCode (code : BitVec 3)
  /-- A host move whose arguments are not those of its code (rule R90). Raised by the host move of a step. Safe. -/
  | badHostArguments (code : BitVec 3)
  /-- A configuration that fails a check of rule R8. Raised by `launch` (rule R241, decision D20). Safe. -/
  | configRefused (check : ConfigCheck)
  /-- A stimulus script with a line outside the grammar, by line number and text (rule R90). Raised by `runScript`. Safe. -/
  | scriptRefused (line : Nat) (text : String)
  deriving DecidableEq, Repr

/-- The state of the system (rule R20): the block's registers, the host side of the interface, and the model's own fields. -/
structure State where
  /-- The admitted configuration this machine has (rule R7). No move changes it. Log entry 1. -/
  cfg        : Config
  /-- Control state (rule R21). -/
  st         : Ctrl
  /-- Shift register (rule R22). -/
  acc        : Word
  /-- Bit counter (rule R23). -/
  n          : BitVec 5
  /-- Phase-delay counter (rule R24). -/
  dly        : Word
  /-- Edge state (rule R25). -/
  prev       : Bool
  /-- The sample register `s` (rule R26). -/
  smp        : Word
  /-- Batch fill index (rule R27). -/
  idx        : BitVec 4
  /-- `Batch[0..9]` (rule R28). -/
  batch      : Vector Word 10
  /-- `rec_src` (rule R29). -/
  recSrc     : Word
  /-- `rec_dst` (rule R29). -/
  recDst     : Word
  /-- The kick latch (rule R30). -/
  kick       : Bool
  /-- The output latch `OUT` (rule R31). -/
  out        : Word
  /-- The fault record (rule R32). -/
  fault      : Option Fault
  /-- The host status field (rule R33). -/
  hostStatus : Byte
  /-- The inbound queue, head first (rule R34). -/
  rxq        : List Message
  /-- The outbound queue, head first (rule R34). -/
  txq        : List Message
  /-- The messages the host has taken from TXQ, oldest first (rule R223). Model's own. Log entry 9. -/
  hostInbox  : List Message
  /-- The draws of the latest block step (rule R111); `pins` is the held pin word of rule R90. Model's own. Log entry 7. -/
  draws      : Draws
  /-- The number of the next move, to which the free values are applied. Model's own. Log entry 8. -/
  tick       : Nat
  /-- The moves a script has fixed for the run, next one first (rule R90). Model's own. Log entry 8. -/
  script     : List Move
  deriving DecidableEq, Repr

/-- A launch state (rules R260 and R262) for a configuration, the two reset draws and a host status. The registers whose
reset value rule R38 calls unobservable are zero (log entry 4). -/
def State.launch (cfg : Config) (prev kick : Bool) (hostStatus : Byte) : State where
  cfg        := cfg
  st         := Ctrl.hsWait
  acc        := 0#32
  n          := 0#5
  dly        := 0#32
  prev       := prev
  smp        := 0#32
  idx        := 0#4
  batch      := Vector.replicate 10 0#32
  recSrc     := 0#32
  recDst     := 0#32
  kick       := kick
  out        := cfg.val.outInit
  fault      := none
  hostStatus := hostStatus
  rxq        := []
  txq        := []
  hostInbox  := []
  draws      := ⟨0xFFFFFFFF#32, true, true⟩
  tick       := 0
  script     := []

/-- The machine right after power-on, under the default configuration (rules R9, R260 and R262): what the spec makes a draw
or an OPEN parameter is a free value (log entries 2, 3 and 6). -/
def State.reset : State :=
  State.launch Config.default Config.powerOnPrev Config.powerOnKick Config.launchHostStatus

end Sys2Proof.Machine
end

