-- ==== Sys2Proof/Machine/Ops.lean ====
section
/-!
DEFINITION. The named operations over registers, queues and the batch that the rules share (`spec/00_scope.md` rule R12):
control transfer, raising a fault, the output latch, the phase delay, the queues, the batch and its payload bytes, and reset.
The block has no trap entry and no trap return (rules R246 and R247), so there is no operation for either.
-/

namespace Sys2Proof.Machine

/-- `st <- S` (rule R12). -/
def State.goto (s : State) (c : Ctrl) : State := { s with st := c }

/-- `raise Fault(r)` (rule R242): records the fault; nothing else is written. -/
def State.raise (s : State) (r : Fault) : State := { s with fault := some r }

/-- Takes the successor that a checked choice gives and makes the step's other writes `w`; if the choice raises a fault, no
write of the step happens, since faults are checked before any write (rule R245 (c)). -/
def State.moveTo (s : State) (next : Except Fault Ctrl) (w : State → State) : State :=
  match next with
  | .ok c => (w s).goto c
  | .error r => s.raise r

/-! ## The output latch (rule R113) -/

/-- `SetOut(mask)`. -/
def State.setOut (s : State) (mask : Word) : State := { s with out := s.out ||| mask }

/-- `ClrOut(mask)`. -/
def State.clrOut (s : State) (mask : Word) : State := { s with out := s.out &&& ~~~mask }

/-- The levels of the output pins (rule R114). -/
def State.outPins (s : State) : Word := s.out

/-- The clock mask `1 << CLK_BIT` (rule R87). -/
def State.clkMask (s : State) : Word := Word.mask s.cfg.val.clkBit

/-- The strobe mask `1 << STB_BIT` (rule R87). -/
def State.stbMask (s : State) : Word := Word.mask s.cfg.val.stbBit

/-! ## The phase-delay machine (rule R160) -/

/-- `dly <- v`. -/
def State.setDly (s : State) (v : Word) : State := { s with dly := v }

/-- A loading state with constant `t`, hold state `hold` and exit target `exit`, which also drives the output latch by
`drive` (rule R160). -/
def State.loadHold (s : State) (t : Word) (hold : Ctrl) (exit : Except Fault Ctrl) (drive : State → State) : State :=
  s.moveTo (if t = 0#32 then exit else .ok hold) fun s => (drive s).setDly t

/-- One step of the hold state `hold` with exit target `exit` (rule R160). -/
def State.holdStep (s : State) (hold : Ctrl) (exit : Except Fault Ctrl) : State :=
  s.moveTo (if s.dly - 1#32 = 0#32 then exit else .ok hold) fun s => s.setDly (s.dly - 1#32)

/-! ## Queues (rule R12) -/

/-- `Enqueue(q, m)`. -/
def enqueue (q : List Message) (m : Message) : List Message := q ++ [m]

/-- Records the endpoints of a dequeued message (rule R145). -/
def State.recordEndpoints (s : State) (m : Message) : State := { s with recSrc := m.src, recDst := m.dst }

/-! ## The batch and its payload (rules R63 and R64) -/

/-- The four bytes of a batch entry, least significant first (rule R64). -/
def wordBytes (w : Word) : List Byte :=
  [w.extractLsb' 0 8, w.extractLsb' 8 8, w.extractLsb' 16 8, w.extractLsb' 24 8]

/-- `bytes(Batch[0..9])`: the payload of an outbound message, element 0 first (rules R63 and R64). -/
def payloadOf (b : Vector Word 10) : List Byte := b.toList.flatMap wordBytes

/-- `MemRead(payload, a, 1)`: the host's view of one payload byte (rules R13 and R64). -/
def payloadByte (p : List Byte) (a : Nat) : Option Byte := p[a]?

/-- The host's view of the 16-bit half `j` of a payload: bytes 2j+1 and 2j (rule R64). -/
def payloadHalf (p : List Byte) (j : Nat) : Option (BitVec 16) :=
  match payloadByte p (2 * j + 1), payloadByte p (2 * j) with
  | some hi, some lo => some (hi ++ lo)
  | _, _ => none

/-- The message SEND builds: a reply, with the recorded endpoints swapped (rules R63 and R201). -/
def State.reply (s : State) : Message := ⟨s.recDst, s.recSrc, payloadOf s.batch⟩

/-- Whether the transport takes a message: it is available and TXQ has space (rules R75 and R201). -/
def State.txAccepts (s : State) : Bool := s.draws.txOk && decide (s.txq.length < s.cfg.val.txqCap)

/-! ## Reset (rule R260) -/

/-- The reset of the block with the values it draws. `fault`, `host_status` and the queues are not changed, and neither are
the model's own fields. -/
def State.resetBlock (s : State) (d : ResetDraw) : State :=
  { s with
    st     := Ctrl.hsWait
    idx    := 0#4
    out    := s.cfg.val.outInit
    prev   := d.prev
    kick   := d.kick
    acc    := d.acc
    n      := d.n
    dly    := d.dly
    smp    := d.smp
    batch  := d.batch
    recSrc := d.recSrc
    recDst := d.recDst }

end Sys2Proof.Machine
end

