-- ==== Sys2Proof/Machine/Operands.lean ====
section
/-!
DEFINITION. The operand forms: one bit of the input snapshot or of the host status field (`spec/30_encoding.md` rules R83,
R85 and R86, `spec/40_step_and_latch.md` rule R112).
-/

namespace Sys2Proof.Machine

/-- The input snapshot: the pins of this cycle, with bit `KICK_BIT` replaced by the kick latch (rule R112). -/
def compose (kickBit : Nat) (pins : Word) (kick : Bool) : Word :=
  (pins &&& ~~~(Word.mask kickBit)) ||| (Word.ofBit kick <<< kickBit)

/-- `IN` of the current block step (rules R37 and R112). -/
def State.inLatch (s : State) : Word := compose s.cfg.val.kickBit s.draws.pins s.kick

/-- `IN[KICK_BIT]`. -/
def State.inKick (s : State) : Bool := s.inLatch.bit s.cfg.val.kickBit

/-- `IN[CTRL_BIT]`. -/
def State.inCtrl (s : State) : Bool := s.inLatch.bit s.cfg.val.ctrlBit

/-- `IN[DATA_BIT]`. -/
def State.inData (s : State) : Bool := s.inLatch.bit s.cfg.val.dataBit

/-- `IN[START_BIT]`. -/
def State.inStart (s : State) : Bool := s.inLatch.bit s.cfg.val.startBit

/-- `host_status[READY_BIT]` (rule R85). -/
def State.driverReady (s : State) : Bool := s.hostStatus.getLsbD s.cfg.val.readyBit

end Sys2Proof.Machine
end

