-- ==== Sys2Proof/Machine/Flags.lean ====
section
/-!
DEFINITION. The conditions the operations compute. The block has no condition-code register (rule R36); its one flag is the
edge state `prev` (rule R25).
-/

namespace Sys2Proof.Machine

/-- `edge` of rule R164: the control line differs from its last observed level. -/
def State.edge (s : State) : Bool := s.inCtrl != s.prev

/-- `prev <- IN[CTRL_BIT]` (rule R164). -/
def State.observeCtrl (s : State) : State := { s with prev := s.inCtrl }

/-- `after_lo()` (rule R161): the successor at the end of a bit, by the bit counter. -/
def afterLo (n : BitVec 5) : Except Fault Ctrl :=
  if n.toNat = nbits then .ok Ctrl.signExt
  else if n.toNat < nbits then .ok Ctrl.clkRise
  else .error (.badCounter n)

end Sys2Proof.Machine
end

