-- ==== Sys2Proof/Machine/Batch.lean ====
section
/-!
DEFINITION. The batch accumulator and queue dispatcher: EMIT and SEND (`spec/44_batch_dispatch.md`).
-/

namespace Sys2Proof.Machine

/-- EMIT: append the sample to the batch (rule R200). The index is neither wrapped nor clipped (rule R61). -/
def execEmit (s : State) : Host.Outcome State Fault Refusal :=
  .next (if h : s.idx.toNat < batchN then
      { s with
        batch := s.batch.set s.idx.toNat s.smp h
        idx   := s.idx + 1#4
        st    := if s.idx.toNat + 1 = batchN then Ctrl.send else Ctrl.stbRise }
    else s.raise (.badIndex s.idx))

/-- SEND: transmit the full batch; the index goes back to 0 whether or not the transport takes the message (rule R201). -/
def execSend (s : State) : Host.Outcome State Fault Refusal :=
  .next (if s.idx.toNat = batchN then
      { s with
        idx := 0#4
        txq := if s.txAccepts then enqueue s.txq s.reply else s.txq
        st  := Ctrl.stbRise }
    else s.raise (.badIndex s.idx))

end Sys2Proof.Machine
end

