-- ==== Sys2Proof/Machine/BringUp.lean ====
section
/-!
DEFINITION. Link bring-up: HS_WAIT, HS_ANN0 and HS_ANN1 (`spec/41_link_bringup.md`).
-/

namespace Sys2Proof.Machine

/-- HS_WAIT: wait for the host driver (rule R130). -/
def execHsWait (s : State) : Host.Outcome State Fault Refusal :=
  .next (s.goto (if s.driverReady then Ctrl.hsAnn0 else Ctrl.hsWait))

/-- HS_ANN0: announce the device-to-host channel (rule R131). -/
def execHsAnn0 (s : State) : Host.Outcome State Fault Refusal :=
  .next (s.goto (if s.draws.annOk then Ctrl.hsAnn1 else Ctrl.hsAnn0))

/-- HS_ANN1: announce the host-to-device channel (rule R132). -/
def execHsAnn1 (s : State) : Host.Outcome State Fault Refusal :=
  .next (s.goto (if s.draws.annOk then Ctrl.kickPoll else Ctrl.hsAnn1))

end Sys2Proof.Machine
end

