-- ==== Sys2Proof/Machine/HostActions.lean ====
section
/-!
DEFINITION. The host's actions: H_STATUS, H_KICK, H_PUSH, H_POP and H_RESET (`spec/45_host_environment.md`). They stay
possible when the block is stopped by a fault (rule R242).
-/

namespace Sys2Proof.Machine

/-- H_STATUS v: the host writes its status field (rule R220). -/
def execHStatus (v : Byte) (s : State) : Host.Outcome State Fault Refusal :=
  .next { s with hostStatus := v }

/-- H_KICK: the host raises a kick (rules R140 and R221). -/
def execHKick (s : State) : Host.Outcome State Fault Refusal :=
  .next { s with kick := true }

/-- H_PUSH: the host sends an inbound message; a full RXQ refuses it without effect (rule R222). -/
def execHPush (src dst : Word) (payload : List Byte) (s : State) : Host.Outcome State Fault Refusal :=
  .next (if s.rxq.length < s.cfg.val.rxqCap then { s with rxq := enqueue s.rxq ⟨src, dst, payload⟩ } else s)

/-- H_POP: the host receives the head of TXQ, if there is one (rule R223). -/
def execHPop (s : State) : Host.Outcome State Fault Refusal :=
  .next (match s.txq with
    | m :: rest => { s with txq := rest, hostInbox := enqueue s.hostInbox m }
    | [] => s)

/-- H_RESET: the host resets the block (rules R224 and R260), which draws its values at this move. -/
def execHReset (s : State) : Host.Outcome State Fault Refusal :=
  .next (s.resetBlock (Config.resetDraw s.tick))

end Sys2Proof.Machine
end

