-- ==== Sys2Proof/Machine/Kick.lean ====
section
/-!
DEFINITION. The interrupt edge detector and drain: KICK_POLL, KICK_CLR and DRAIN (`spec/42_kick_detector.md`).
-/

namespace Sys2Proof.Machine

/-- KICK_POLL: poll the kick bit; the latch is read and not changed (rule R142). -/
def execKickPoll (s : State) : Host.Outcome State Fault Refusal :=
  .next (s.goto (if s.inKick then Ctrl.kickClr else Ctrl.kickPoll))

/-- KICK_CLR: clear the pending-event flag (rule R143). -/
def execKickClr (s : State) : Host.Outcome State Fault Refusal :=
  .next { s with kick := false, st := Ctrl.drain }

/-- DRAIN: dequeue one inbound message and record its endpoints, or go back to polling (rule R145). -/
def execDrain (s : State) : Host.Outcome State Fault Refusal :=
  .next (match s.rxq with
    | m :: rest => ({ s with rxq := rest }.recordEndpoints m).goto Ctrl.edgePoll
    | [] => s.goto Ctrl.kickPoll)

end Sys2Proof.Machine
end

