-- ==== Sys2Proof/Machine/Sampler.lean ====
section
/-!
DEFINITION. The ADC bit-bang sampler (`spec/43_sampler.md`): edge detector, clock generator, shift register, phase delays,
sign extender and strobe generator.
-/

namespace Sys2Proof.Machine

/-- EDGE_POLL: poll the control bit; every poll writes `prev` (rule R164). -/
def execEdgePoll (s : State) : Host.Outcome State Fault Refusal :=
  .next (s.observeCtrl.goto (if s.edge then Ctrl.clkIdleLow else Ctrl.edgePoll))

/-- CLK_IDLE_LOW: force the clock low (rule R165). -/
def execClkIdleLow (s : State) : Host.Outcome State Fault Refusal :=
  .next ((s.clrOut s.clkMask).goto Ctrl.startTest)

/-- START_TEST: the start line reading low begins an acquisition (rule R167). -/
def execStartTest (s : State) : Host.Outcome State Fault Refusal :=
  .next (if s.inStart then s.goto Ctrl.edgePoll else { s with acc := 0#32, n := 0#5, st := Ctrl.clkRise })

/-- CLK_RISE: drive the clock high and load `T_HI` (rule R168). -/
def execClkRise (s : State) : Host.Outcome State Fault Refusal :=
  .next (s.loadHold s.cfg.val.tHi Ctrl.holdHi (.ok Ctrl.shiftIn) fun s => s.setOut s.clkMask)

/-- HOLD_HI: clock-high hold (rule R169). -/
def execHoldHi (s : State) : Host.Outcome State Fault Refusal :=
  .next (s.holdStep Ctrl.holdHi (.ok Ctrl.shiftIn))

/-- SHIFT_IN: shift the accumulator and sample the data line into bit 0 (rule R170). -/
def execShiftIn (s : State) : Host.Outcome State Fault Refusal :=
  .next { s with acc := s.acc.shl32 1 ||| Word.ofBit s.inData, n := s.n + 1#5, st := Ctrl.clkFall }

/-- CLK_FALL: drive the clock low and load `T_LO` (rule R171). -/
def execClkFall (s : State) : Host.Outcome State Fault Refusal :=
  .next (s.loadHold s.cfg.val.tLo Ctrl.holdLo (afterLo s.n) fun s => s.clrOut s.clkMask)

/-- HOLD_LO: clock-low hold (rule R172). -/
def execHoldLo (s : State) : Host.Outcome State Fault Refusal :=
  .next (s.holdStep Ctrl.holdLo (afterLo s.n))

/-- SIGN_EXT: sign-extend the 24-bit word (rule R174). -/
def execSignExt (s : State) : Host.Outcome State Fault Refusal :=
  .next { s with smp := (s.acc.shl32 sx).asr32 sx, st := Ctrl.emit }

/-- STB_RISE: strobe high and load `T_STB` (rule R176). -/
def execStbRise (s : State) : Host.Outcome State Fault Refusal :=
  .next (s.loadHold s.cfg.val.tStb Ctrl.holdStb (.ok Ctrl.stbFall) fun s => s.setOut s.stbMask)

/-- HOLD_STB: strobe hold (rule R177). -/
def execHoldStb (s : State) : Host.Outcome State Fault Refusal :=
  .next (s.holdStep Ctrl.holdStb (.ok Ctrl.stbFall))

/-- STB_FALL: strobe low, back to polling (rule R178). -/
def execStbFall (s : State) : Host.Outcome State Fault Refusal :=
  .next ((s.clrOut s.stbMask).goto Ctrl.edgePoll)

end Sys2Proof.Machine
end

