-- ==== Sys2Proof/Machine/Dispatch.lean ====
section
/-!
DEFINITION. One arm per operation: the rule the operation follows, performed on a state.
-/

namespace Sys2Proof.Machine

def exec (i : Instr) (s : State) : Host.Outcome State Fault Refusal :=
  match i with
  | .hsWait => Sys2Proof.Machine.execHsWait s
  | .hsAnn0 => Sys2Proof.Machine.execHsAnn0 s
  | .hsAnn1 => Sys2Proof.Machine.execHsAnn1 s
  | .kickPoll => Sys2Proof.Machine.execKickPoll s
  | .kickClr => Sys2Proof.Machine.execKickClr s
  | .drain => Sys2Proof.Machine.execDrain s
  | .edgePoll => Sys2Proof.Machine.execEdgePoll s
  | .clkIdleLow => Sys2Proof.Machine.execClkIdleLow s
  | .startTest => Sys2Proof.Machine.execStartTest s
  | .clkRise => Sys2Proof.Machine.execClkRise s
  | .holdHi => Sys2Proof.Machine.execHoldHi s
  | .shiftIn => Sys2Proof.Machine.execShiftIn s
  | .clkFall => Sys2Proof.Machine.execClkFall s
  | .holdLo => Sys2Proof.Machine.execHoldLo s
  | .signExt => Sys2Proof.Machine.execSignExt s
  | .emit => Sys2Proof.Machine.execEmit s
  | .send => Sys2Proof.Machine.execSend s
  | .stbRise => Sys2Proof.Machine.execStbRise s
  | .holdStb => Sys2Proof.Machine.execHoldStb s
  | .stbFall => Sys2Proof.Machine.execStbFall s
  | .hStatus v => Sys2Proof.Machine.execHStatus v s
  | .hKick => Sys2Proof.Machine.execHKick s
  | .hPush src dst payload => Sys2Proof.Machine.execHPush src dst payload s
  | .hPop => Sys2Proof.Machine.execHPop s
  | .hReset => Sys2Proof.Machine.execHReset s

end Sys2Proof.Machine
end

