-- ==== Sys2Proof/Machine/Cycle.lean ====
section
/-!
DEFINITION. Runs are built out of moves (`spec/40_step_and_latch.md` rules R110 and R111): which move comes next, the block
step, the host move, and the placing of one operation so that the next move performs it.
-/

namespace Sys2Proof.Machine

/-- The arguments of the host action the environment draws for move `t`, by its code. -/
def envHostArgs (t : Nat) (code : Nat) : HostArgs :=
  match code with
  | 0 => .status (Config.envStatus t)
  | 2 => .message (Config.envSrc t) (Config.envDst t) (Config.envPayload t)
  | _ => .none

/-- The move the environment draws where no script says: a block step with any draws, or any one of the five host actions
(rules R110, R111 and R225). Log entry 8. -/
def envMove (t : Nat) : Move :=
  if Config.envIsHost t then .host (BitVec.ofNat 3 (Config.envHostCode t).val) (envHostArgs t (Config.envHostCode t).val)
  else .block (Config.envDraws t)

/-- The next move: the script's, or the environment's. -/
def State.nextMove (s : State) : Move := s.script.headD (envMove s.tick)

/-- The state with the next move taken off the script and the move number advanced. -/
def State.taken (s : State) : State := { s with script := s.script.tail, tick := s.tick + 1 }

/-- The state with the draws of a block step latched. -/
def State.withDraws (s : State) (d : Draws) : State := { s with draws := d }

/-- One block step with its draws (rule R111). A block stopped by a fault has no step (rule R242); a reserved code raises
`IllegalState` (rule R81). -/
def blockStep (d : Draws) (s : State) : Host.Outcome State Fault Refusal :=
  match s.fault with
  | some r => .fault r
  | none =>
    match decodeState5 s.st with
    | .ok i => exec i (s.withDraws d)
    | .error _ => .next ((s.withDraws d).raise (.illegalState s.st))

/-- One host action, given by its code and arguments. Reserved codes and wrong arguments are refused (rules R88, R90). -/
def hostMove (c : BitVec 3) (args : HostArgs) (s : State) : Host.Outcome State Fault Refusal :=
  match decodeHostEv3 c args with
  | .ok i => exec i s
  | .error (.badHostArguments k) => .refused (.badHostArguments k)
  | .error _ => .refused (.reservedHostCode c)

/-- One move of a run (rule R110). -/
def runMove (m : Move) (s : State) : Host.Outcome State Fault Refusal :=
  match m with
  | .block d => blockStep d s
  | .host c args => hostMove c args s

/-- The state in which the next move is the operation that `code` stands for: a STATE5 code is put into `st` of a block that
is not stopped and the next move is a block step with the held draws; a HOSTEV3 code is the next move itself. -/
def State.place (s : State) (code : Code) : State :=
  match code with
  | .state5 c => { s with st := c, fault := none, script := .block s.draws :: s.script }
  | .hostEv3 c args => { s with script := .host c args :: s.script }

/-- `State.place` for a row of the opcode table whose bits are `w`; a number that does not fit its format places nothing. -/
def State.placeWord (s : State) (nbits w : Nat) : State :=
  match tableCode nbits w with
  | some c => s.place c
  | none => s

end Sys2Proof.Machine
end

