-- ==== Sys2Proof/Machine/Step.lean ====
section
/-!
DEFINITION. The step: one move of the run (`spec/40_step_and_latch.md` rule R110).
-/

namespace Sys2Proof.Machine

/-- One move of the run: a block step or one host action, whichever comes next. -/
def step (s : State) : Host.Outcome State Fault Refusal := runMove s.nextMove s.taken

/-- `s` with the operation whose opcode-table row has the bits `w` placed so that the next step performs it. -/
def State.withFetchWord (s : State) (nbits w : Nat) : State := s.placeWord nbits w

end Sys2Proof.Machine
end

