-- ==== Sys2Proof/Machine/Script.lean ====
section
/-!
DEFINITION. What stands around the machine: the launch of a configuration (`spec/00_scope.md` rule R8, rule R262) and stimulus
scripts (`spec/30_encoding.md` rules R90 to R92): their grammar, the moves each line stands for, their runs and traces.
-/

namespace Sys2Proof.Machine

/-! ## Launch -/

/-- The launch of a configuration: refused by name if it fails a check of rule R8, else a launch state (rule R262). -/
def launch (raw : RawConfig) (prev kick : Bool) (hostStatus : Byte) : Host.Outcome State Fault Refusal :=
  match h : raw.failedCheck with
  | some k => .refused (.configRefused k)
  | none => .next (State.launch ⟨raw, raw.admitted_of_failedCheck h⟩ prev kick hostStatus)

/-! ## Runs -/

/-- `k` moves of the run, stopping at the first fault or refusal. -/
def runFor : Nat → State → Host.Outcome State Fault Refusal
  | 0, s => .next s
  | k + 1, s =>
    match step s with
    | .next t => runFor k t
    | .fault r => .fault r
    | .refused r => .refused r

/-- The state in which the next moves are `ms`. -/
def State.load (s : State) (ms : List Move) : State := { s with script := ms ++ s.script }

/-- The run of the moves `ms`. -/
def runMoves (ms : List Move) (s : State) : Host.Outcome State Fault Refusal := runFor ms.length (s.load ms)

/-- The mnemonic of the operation that the next move performs, if it is a block step that performs one (rule R91). -/
def State.traceOf (s : State) : List String :=
  match s.nextMove, s.fault, decodeState5 s.st with
  | .block _, none, .ok i => [i.mnemonic]
  | _, _, _ => []

/-- The trace of `k` moves: one mnemonic per block step (rule R91). -/
def trace : Nat → State → List String
  | 0, _ => []
  | k + 1, s =>
    match step s with
    | .next t => s.traceOf ++ trace k t
    | _ => s.traceOf

/-! ## The moves a script line stands for (rules R90 and R92) -/

/-- How an `acquire` line ends (rule R92). -/
inductive AcquireMode where
  | full
  | nostart
  | txFail
  deriving DecidableEq, Repr

/-- One line of a script (rule R90). -/
inductive ScriptLine where
  | blank
  | steps (count : Nat) (pins : Option Word) (annOk txOk : Bool)
  | host (c : BitVec 3) (args : HostArgs)
  | idle (k : Nat)
  | acquire (v : BitVec 24) (mode : AcquireMode)
  deriving DecidableEq, Repr

/-- A pin word with one pin at a given level and all other pins held. -/
def setPin (pins : Word) (b : Nat) (level : Bool) : Word :=
  if level then pins ||| Word.mask b else pins &&& ~~~(Word.mask b)

/-- A block step with a pin word and the default draws (rule R90: both default to `ok`). -/
def stepMove (pins : Word) : Move := .block ⟨pins, true, true⟩

/-- One clock pulse that shifts in the bit `b` (rule R92, item 4). -/
def pulseMoves (c : RawConfig) (pins : Word) (b : Bool) : List Move :=
  stepMove pins :: List.replicate c.tHi.toNat (stepMove pins) ++
    stepMove (setPin pins c.dataBit b) :: stepMove (setPin pins c.dataBit b) ::
      List.replicate c.tLo.toNat (stepMove (setPin pins c.dataBit b))

/-- The clock pulses that shift in a list of bits, first bit first. -/
def pulsesMoves (c : RawConfig) (pins : Word) : List Bool → List Move
  | [] => []
  | b :: bs => pulseMoves c pins b ++ pulsesMoves c (setPin pins c.dataBit b) bs

/-- The pin word held after those pulses. -/
def pulsesPins (c : RawConfig) (pins : Word) (bs : List Bool) : Word :=
  bs.foldl (fun p b => setPin p c.dataBit b) pins

/-- The data bits of a 24-bit value in the order they are shifted in, MSB first (rule R89). -/
def dataBits (v : BitVec 24) : List Bool := (List.range nbits).map fun j => v.getLsbD (nbits - 1 - j)

/-- The steps that follow the pulses (rule R92, item 5): SIGN_EXT, EMIT, SEND if the batch fills, and the strobe. -/
def finishMoves (c : RawConfig) (pins : Word) (fills txOk : Bool) : List Move :=
  [stepMove pins, stepMove pins] ++ (if fills then [Move.block ⟨pins, true, txOk⟩] else []) ++
    stepMove pins :: List.replicate c.tStb.toNat (stepMove pins) ++ [stepMove pins]

/-- The pin word at the EDGE_POLL and CLK_IDLE_LOW of an `acquire`: CTRL at the level opposite to `prev` (items 1 and 2). -/
def State.togglePins (s : State) : Word := setPin s.draws.pins s.cfg.val.ctrlBit (!s.prev)

/-- The moves of `acquire v`, `acquire v nostart` and `acquire v tx=fail` (rule R92). -/
def State.acquireMoves (s : State) (v : BitVec 24) (mode : AcquireMode) : List Move :=
  let go := setPin s.togglePins s.cfg.val.startBit (mode == .nostart)
  let rest :=
    match mode with
    | .nostart => []
    | _ => pulsesMoves s.cfg.val go (dataBits v) ++
        finishMoves s.cfg.val (pulsesPins s.cfg.val go (dataBits v)) (decide (s.idx.toNat + 1 = batchN)) (mode != .txFail)
  [stepMove s.togglePins, stepMove s.togglePins, stepMove go] ++ rest

/-- The moves a script line stands for in a state (rules R90 and R92). Without `pins=` the held pin word is used. -/
def State.expand (s : State) : ScriptLine → List Move
  | .blank => []
  | .steps k pins annOk txOk => List.replicate k (.block ⟨pins.getD s.draws.pins, annOk, txOk⟩)
  | .host c args => [.host c args]
  | .idle k => List.replicate k (stepMove (setPin s.draws.pins s.cfg.val.ctrlBit s.prev))
  | .acquire v mode => s.acquireMoves v mode

/-- The run of a list of script lines: each line's moves, expanded in the state the line starts in. -/
def runLines : List ScriptLine → State → Host.Outcome State Fault Refusal
  | [], s => .next s
  | l :: ls, s =>
    match runMoves (s.expand l) s with
    | .next t => runLines ls t
    | .fault r => .fault r
    | .refused r => .refused r

/-! ## The grammar (rule R90)

The reading of details the grammar leaves open (white space, digits, comments after an item) is log entry 12. -/

/-- White space inside a line. -/
def isBlank (c : Char) : Bool := c == ' ' || c == '\t' || c == '\r'

/-- The words of a line; `w` holds the letters of the word being read, last one first. -/
def wordsFrom (w : List Char) : List Char → List (List Char)
  | [] => if w.isEmpty then [] else [w.reverse]
  | c :: cs =>
    if isBlank c then (if w.isEmpty then wordsFrom [] cs else w.reverse :: wordsFrom [] cs) else wordsFrom (c :: w) cs

/-- The lines of a text; `w` holds the letters of the line being read, last one first. -/
def linesFrom (w : List Char) : List Char → List (List Char)
  | [] => [w.reverse]
  | c :: cs => if c == '\n' then w.reverse :: linesFrom [] cs else linesFrom (c :: w) cs

/-- The value of a hexadecimal digit. -/
def digitValue (c : Char) : Option Nat :=
  if '0' ≤ c ∧ c ≤ '9' then some (c.toNat - 48)
  else if 'a' ≤ c ∧ c ≤ 'f' then some (c.toNat - 87)
  else if 'A' ≤ c ∧ c ≤ 'F' then some (c.toNat - 55)
  else none

/-- The value of digits in a base, after the value read so far. -/
def digitsFrom (base value : Nat) : List Char → Option Nat
  | [] => some value
  | c :: cs =>
    match digitValue c with
    | some d => if d < base then digitsFrom base (value * base + d) cs else none
    | none => none

/-- A number of at least one digit. -/
def readNumber (base : Nat) (cs : List Char) : Option Nat := if cs.isEmpty then none else digitsFrom base 0 cs

/-- A hexadecimal value of a given width: at least one digit and at most one per four bits. -/
def readHex (w : Nat) (cs : List Char) : Option (BitVec w) :=
  if 4 * cs.length ≤ w then (readNumber 16 cs).map (BitVec.ofNat w) else none

/-- Bytes as pairs of hexadecimal digits, first byte first. -/
def readBytes : List Char → Option (List Byte)
  | [] => some []
  | [_] => none
  | a :: b :: cs =>
    match readHex 8 [a, b], readBytes cs with
    | some x, some xs => some (x :: xs)
    | _, _ => none

/-- The rest of a word after a given beginning. -/
def afterText : List Char → List Char → Option (List Char)
  | [], cs => some cs
  | _ :: _, [] => none
  | p :: ps, c :: cs => if p == c then afterText ps cs else none

/-- `ok` or `fail`. -/
def readOutcome (cs : List Char) : Option Bool :=
  if cs == ['o', 'k'] then some true else if cs == ['f', 'a', 'i', 'l'] then some false else none

/-- An optional item `key=value` at the head of the words: the value, or a default if the head is another word; none if the
value cannot be read. -/
def readItem {α : Type} (key : List Char) (default : α) (read : List Char → Option α) :
    List (List Char) → Option (α × List (List Char))
  | [] => some (default, [])
  | w :: ws =>
    match afterText key w with
    | none => some (default, w :: ws)
    | some v => (read v).map fun x => (x, ws)

/-- The count of a `step` line, 1 if it has none. -/
def readCount : List (List Char) → Nat × List (List Char)
  | [] => (1, [])
  | w :: ws =>
    match readNumber 10 w with
    | some k => (k, ws)
    | none => (1, w :: ws)

/-- The items of a `step` line, in the order of the grammar. -/
def readStep (ws : List (List Char)) : Option ScriptLine :=
  match readItem "pins=".toList none (fun v => (readHex 32 v).map some) (readCount ws).2 with
  | none => none
  | some (pins, ws1) =>
    match readItem "ann=".toList true readOutcome ws1 with
    | none => none
    | some (annOk, ws2) =>
      match readItem "tx=".toList true readOutcome ws2 with
      | some (txOk, []) => some (.steps (readCount ws).1 pins annOk txOk)
      | _ => none

/-- A `H_PUSH` with its arguments. -/
def readPush (src dst payload : List Char) : Option ScriptLine :=
  match readHex 32 src, readHex 32 dst, readBytes payload with
  | some a, some b, some p => some (.host 2#3 (.message a b p))
  | _, _, _ => none

/-- The host event of a `host` line. No reserved code can be named (rule R88). -/
def readHost (name : String) (args : List (List Char)) : Option ScriptLine :=
  match name, args with
  | "H_STATUS", [v] => (readHex 8 v).map fun x => .host 0#3 (.status x)
  | "H_KICK", [] => some (.host 1#3 .none)
  | "H_PUSH", [src, dst] => readPush src dst []
  | "H_PUSH", [src, dst, payload] => readPush src dst payload
  | "H_POP", [] => some (.host 3#3 .none)
  | "H_RESET", [] => some (.host 4#3 .none)
  | _, _ => none

/-- The `acquire` line with its optional ending (rule R92). -/
def readAcquire (v : List Char) (mode : AcquireMode) : Option ScriptLine := (readHex 24 v).map fun x => .acquire x mode

/-- One line of a script, without its comment; none if it is outside the grammar. -/
def readLine (line : List Char) : Option ScriptLine :=
  match wordsFrom [] (line.takeWhile fun c => c != '#') with
  | [] => some .blank
  | w :: ws =>
    match String.ofList w, ws with
    | "step", ws => readStep ws
    | "host", name :: args => readHost (String.ofList name) args
    | "idle", [k] => (readNumber 10 k).map .idle
    | "acquire", [v] => readAcquire v .full
    | "acquire", [v, m] =>
      if String.ofList m = "nostart" then readAcquire v .nostart
      else if String.ofList m = "tx=fail" then readAcquire v .txFail
      else none
    | _, _ => none

/-- The lines of a script, numbered from `k`, or the first line outside the grammar with its number. -/
def readLines (k : Nat) : List (List Char) → Except (Nat × String) (List ScriptLine)
  | [] => .ok []
  | l :: ls =>
    match readLine l with
    | none => .error (k, String.ofList l)
    | some x =>
      match readLines (k + 1) ls with
      | .ok xs => .ok (x :: xs)
      | .error e => .error e

/-- A script as text (rule R90). -/
def readScript (text : String) : Except (Nat × String) (List ScriptLine) := readLines 1 (linesFrom [] text.toList)

/-- The run of a script: refused by line number and text if a line is outside the grammar (rule R90). -/
def runScript (text : String) (s : State) : Host.Outcome State Fault Refusal :=
  match readScript text with
  | .ok ls => runLines ls s
  | .error (k, line) => .refused (.scriptRefused k line)

end Sys2Proof.Machine
end

