-- ==== Sys2Proof/Safety.lean ====
section
/-!
DEFINITION. What a safe run is, in the terms the statements use: the modes of the block, what a sample and a batch payload
are, the invariant of the control and data path, the levels of the output pins, and fair schedules.
-/

namespace Sys2Proof.Machine

/-- Sampling: codes 0x06 to 0x13 (rule R163). -/
abbrev State.sampling (s : State) : Prop := 0x06 ≤ s.st.toNat ∧ s.st.toNat ≤ 0x13

/-- `st` holds one of the 20 codes that name an operation (rule R21). -/
abbrev State.legal (s : State) : Prop := s.st.toNat ≤ 0x13

/-- The next move is a reset (rule R224). -/
abbrev State.resetIsNext (s : State) : Prop := s.nextMove = .host 4#3 .none

/-- A sample: a 24-bit two's-complement integer sign-extended to 32 bits (rule R15). -/
abbrev IsSample (w : Word) : Prop := w = w.sext24

/-- The payload of a batch: the bytes of ten samples (rules R63 and R203). -/
def IsBatchPayload (p : List Byte) : Prop :=
  ∃ b : Vector Word 10, p = payloadOf b ∧ ∀ (i : Nat) (h : i < 10), IsSample b[i]

/-- The invariant of the control and data path. It rules out the three faults of rule R241, and says what the counters, the
shift register, the batch and the queues hold in each control state. -/
structure State.Inv (s : State) : Prop where
  /-- No fault is recorded (rule R241: each is unreachable). -/
  noFault : s.fault = none
  /-- Only the 20 codes are held in `st` (rule R21). -/
  legal : s.legal
  /-- At SEND the batch is full (rule R27). -/
  idxAtSend : s.st = Ctrl.send → s.idx = 10#4
  /-- Everywhere else the index names a free entry (rule R27). -/
  idxElsewhere : s.st ≠ Ctrl.send → s.idx.toNat ≤ 9
  /-- While a bit is being clocked in, fewer than 24 bits have been, and `acc` holds no more than them (rules R161, R173). -/
  clockedHigh : s.st = Ctrl.clkRise ∨ s.st = Ctrl.holdHi ∨ s.st = Ctrl.shiftIn →
    s.n.toNat < 24 ∧ s.acc.toNat < 2 ^ s.n.toNat
  /-- At the end of a bit, 1 to 24 bits have been shifted in (rules R23, R161 and R173). -/
  clockedLow : s.st = Ctrl.clkFall ∨ s.st = Ctrl.holdLo →
    1 ≤ s.n.toNat ∧ s.n.toNat ≤ 24 ∧ s.acc.toNat < 2 ^ s.n.toNat
  /-- At SIGN_EXT all 24 bits are in, and bits 31..24 of `acc` are 0 (rule R173). -/
  wordIn : s.st = Ctrl.signExt → s.n = 24#5 ∧ s.acc.toNat < 2 ^ 24
  /-- At EMIT the sample register holds a sample (rule R174). -/
  sampleReady : s.st = Ctrl.emit → IsSample s.smp
  /-- A hold state has between 1 and its constant's number of cycles left (rule R160). -/
  holdHi : s.st = Ctrl.holdHi → 1 ≤ s.dly.toNat ∧ s.dly.toNat ≤ s.cfg.val.tHi.toNat
  holdLo : s.st = Ctrl.holdLo → 1 ≤ s.dly.toNat ∧ s.dly.toNat ≤ s.cfg.val.tLo.toNat
  holdStb : s.st = Ctrl.holdStb → 1 ≤ s.dly.toNat ∧ s.dly.toNat ≤ s.cfg.val.tStb.toNat
  /-- Every filled batch entry is a sample (rules R28 and R200). -/
  batch : ∀ (i : Nat) (h : i < 10), i < s.idx.toNat → IsSample s.batch[i]
  /-- Every message sent, taken by the host or still queued, is a batch of ten samples (rule R203). -/
  sent : ∀ m ∈ s.hostInbox ++ s.txq, IsBatchPayload m.payload
  /-- No queue holds more than its capacity (rule R34). -/
  txqFits : s.txq.length ≤ s.cfg.val.txqCap
  rxqFits : s.rxq.length ≤ s.cfg.val.rxqCap

/-- The levels of the output pins in each control state (rules R165 to R178 and R275): CLK is high from the end of CLK_RISE to
the end of CLK_FALL and low in the rest of an acquisition and its strobe, STB is high from the end of STB_RISE to the end of
STB_FALL, and the bits the block does not use keep `OUT_INIT`. -/
structure State.PinLevels (s : State) : Prop where
  clkHigh : s.st = Ctrl.holdHi ∨ s.st = Ctrl.shiftIn ∨ s.st = Ctrl.clkFall → s.out.bit s.cfg.val.clkBit = true
  clkLow : s.st = Ctrl.startTest ∨ s.st = Ctrl.clkRise ∨ s.st = Ctrl.holdLo ∨ s.st = Ctrl.signExt ∨ s.st = Ctrl.emit ∨
    s.st = Ctrl.send ∨ s.st = Ctrl.stbRise ∨ s.st = Ctrl.holdStb ∨ s.st = Ctrl.stbFall → s.out.bit s.cfg.val.clkBit = false
  stbHigh : s.st = Ctrl.holdStb ∨ s.st = Ctrl.stbFall → s.out.bit s.cfg.val.stbBit = true
  unused : ∀ b < 32, b ≠ s.cfg.val.clkBit → b ≠ s.cfg.val.stbBit → s.out.bit b = s.cfg.val.outInit.bit b

/-- The cycles of one bit (rule R179). -/
def bitCycles (c : RawConfig) : Nat := 3 + c.tHi.toNat + c.tLo.toNat

/-- The cycles of one acquisition, from the EDGE_POLL that sees the transition (rule R179). -/
def acquisitionCycles (c : RawConfig) (fills : Bool) : Nat :=
  7 + 24 * bitCycles c + c.tStb.toNat + if fills then 1 else 0

/-- The converter's duties (a) to (c) of rule R226 for one sample, as premises on the draws `ds 0`, `ds 1`, ... of an
acquisition's cycles: CTRL has changed its level at the first cycle, START is low at START_TEST, and DATA holds bit j of the
word, MSB first, at the SHIFT_IN of pulse j, which is cycle `T_HI + 1` of that bit (rule R179). -/
structure ConverterDuties (c : RawConfig) (prev : Bool) (v : BitVec 24) (ds : Nat → Draws) : Prop where
  toggles : (ds 0).pins.bit c.ctrlBit = !prev
  starts : (ds 2).pins.bit c.startBit = false
  holds : ∀ j < 24, (ds (3 + j * bitCycles c + (c.tHi.toNat + 1))).pins.bit c.dataBit = v.getLsbD (23 - j)

/-- The first `k` block steps with the draws `ds`. -/
def blockMoves (ds : Nat → Draws) (k : Nat) : List Move := (List.range k).map fun i => .block (ds i)

/-- A schedule of moves is fair if the block takes infinitely many steps in it (rule R117, decision D31). -/
def Fair (sched : Nat → Move) : Prop := ∀ k, ∃ j, k ≤ j ∧ ∃ d, sched j = .block d

/-- The first `k` moves of a schedule. -/
def firstMoves (sched : Nat → Move) (k : Nat) : List Move := (List.range k).map sched

end Sys2Proof.Machine
end

