-- ==== Sys2Proof/Certificates/Slice0/Obligations.lean ====
section
/-!
DEFINITION. The statements for the provers. Each is written from the rules of `spec/` that its docstring names, for every
admitted configuration, because the configuration is a field of the state.
-/

open Sys2Proof Sys2Proof.Machine

/-! ## Encodings -/

/-- Rules R80 and R88: the decoder reads back every operation from its code, with every argument. -/
def Obligations.EncodedOperationDecodesBack : Prop := ∀ i : Instr, decode (encode i) = .ok i

/-- Rules R80 and R88: a code that decodes is the code of the operation it decodes to, so no operation has two codes. -/
def Obligations.DecodedCodeIsItsEncoding : Prop := ∀ (c : Code) (i : Instr), decode c = .ok i → encode i = c

/-- Rules R80, R81 and R88: the reserved codes name no operation. -/
def Obligations.ReservedCodesNameNoOperation : Prop :=
  (∀ c : Ctrl, 0x14 ≤ c.toNat → decode (.state5 c) = .error (.reservedState c)) ∧
  (∀ (c : BitVec 3) (args : HostArgs), 5 ≤ c.toNat → decode (.hostEv3 c args) = .error (.reservedHostCode c))

/-- Rules R80 and R88: a code of each group, written out in bits. -/
def Obligations.SampleCodesDecode : Prop :=
  decode (.state5 0b00000#5) = .ok .hsWait ∧ decode (.state5 0b00101#5) = .ok .drain ∧
  decode (.state5 0b01011#5) = .ok .shiftIn ∧ decode (.state5 0b10000#5) = .ok .send ∧
  decode (.hostEv3 0b100#3 .none) = .ok .hReset

/-! ## The step -/

/-- Rules R110 and R111: a block step latches the draws and performs the operation that `st` names; a host action is
performed as it is. Both take the move off the script and advance the move number. Where no script is left, the move is the
environment's (log entry 8). -/
def Obligations.StepRunsTheDecodedOperation : Prop :=
  (∀ (s : State) (d : Draws) (ms : List Move) (i : Instr), s.script = .block d :: ms → s.fault = none →
    decode (.state5 s.st) = .ok i → step s = exec i { s with script := ms, tick := s.tick + 1, draws := d }) ∧
  (∀ (s : State) (c : BitVec 3) (args : HostArgs) (ms : List Move) (i : Instr), s.script = .host c args :: ms →
    decode (.hostEv3 c args) = .ok i → step s = exec i { s with script := ms, tick := s.tick + 1 }) ∧
  (∀ s : State, s.script = [] → step s = step { s with script := [envMove s.tick] })

/-- Rule R81: codes 0x14 to 0x1F name no operation, a block step with one in `st` raises `IllegalState(st)`, writes no other
register and is the block's last; no operation writes such a code to `st`. That the stopped block's next step answers the outcome fault is
the model's (log entry 10, by R242 and R111); that no operation writes such a code is R81's own inference. -/
def Obligations.ReservedStateRaisesIllegalState : Prop :=
  (∀ (s : State) (d : Draws), 0x14 ≤ s.st.toNat → s.fault = none →
    decode (.state5 s.st) = .error (.reservedState s.st) ∧
    ∃ t, runMove (.block d) s = .next t ∧ t = { s with draws := d, fault := some (.illegalState s.st) } ∧
      ∀ d', runMove (.block d') t = .fault (.illegalState s.st)) ∧
  (∀ (i : Instr) (s t : State), exec i s = .next t → t.st = s.st ∨ t.st.toNat ≤ 0x13)

/-- Rule R242: raising a fault records it; with a fault recorded the block has no step, host actions stay possible, and none
of them clears the fault, H_RESET included. That a step of the stopped block answers the outcome fault with its reason is the
model's (log entry 10). -/
def Obligations.StoppedBlockHasNoStep : Prop :=
  (∀ (s : State) (r : Fault), s.raise r = { s with fault := some r }) ∧
  ∀ (s : State) (r : Fault), s.fault = some r →
    (∀ d, runMove (.block d) s = .fault r) ∧
    (∀ c args, hostEventExists c args = true → ∃ t, runMove (.host c args) s = .next t ∧ t.fault = some r)

/-- Rule R117: a block that has not faulted always has a step, whatever it draws. -/
def Obligations.UnfaultedBlockAlwaysHasAStep : Prop :=
  ∀ (s : State) (d : Draws), s.fault = none → ∃ t, runMove (.block d) s = .next t

/-! ## Bring-up -/

/-- Rule R130: HS_WAIT goes on exactly when the driver-ready bit is set, and changes nothing else. -/
def Obligations.HsWaitFollowsTheReadyBit : Prop :=
  ∀ s : State, exec .hsWait s =
    .next { s with st := if s.hostStatus.getLsbD s.cfg.val.readyBit then Ctrl.hsAnn0 else Ctrl.hsWait }

/-- Rules R131 and R132: an announcement goes on exactly when it is accepted, and is retried otherwise. -/
def Obligations.AnnouncementsRetryUntilAccepted : Prop :=
  ∀ s : State,
    exec .hsAnn0 s = .next { s with st := if s.draws.annOk then Ctrl.hsAnn1 else Ctrl.hsAnn0 } ∧
    exec .hsAnn1 s = .next { s with st := if s.draws.annOk then Ctrl.kickPoll else Ctrl.hsAnn1 }

/-- Rule R133: no move but a reset returns to the bring-up states from a later one. -/
def Obligations.BringUpIsNotEnteredAgain : Prop :=
  ∀ s t : State, 0x03 ≤ s.st.toNat → step s = .next t → 0x03 ≤ t.st.toNat ∨ s.resetIsNext

/-! ## Kick detector and drain -/

/-- Rule R142 with rule R112: KICK_POLL sees the kick latch, whatever the pins show at that bit, and leaves it as it is. -/
def Obligations.KickPollSeesTheLatch : Prop :=
  ∀ s : State, exec .kickPoll s = .next { s with st := if s.kick then Ctrl.kickClr else Ctrl.kickPoll }

/-- Rule R143: KICK_CLR clears the latch and goes on to DRAIN. -/
def Obligations.KickClrClearsTheLatch : Prop :=
  ∀ s : State, exec .kickClr s = .next { s with kick := false, st := Ctrl.drain }

/-- Rule R145: DRAIN takes exactly the head of RXQ, whatever its payload, and records its endpoints; with an empty queue
polling resumes. -/
def Obligations.DrainTakesTheHeadMessage : Prop :=
  (∀ (s : State) (m : Message) (rest : List Message), s.rxq = m :: rest →
    exec .drain s = .next { s with rxq := rest, recSrc := m.src, recDst := m.dst, st := Ctrl.edgePoll }) ∧
  (∀ s : State, s.rxq = [] → exec .drain s = .next { s with st := Ctrl.kickPoll })

/-- Rules R141 and R221: a kick after KICK_CLR is kept, and one before it is cleared. Rule R144, which the spec derives from
R140: kicks coalesce. -/
def Obligations.KickSetAndClearInEitherOrder : Prop :=
  ∀ s t u : State,
    (exec .hKick s = .next t → exec .hKick t = .next t) ∧
    (exec .kickClr s = .next t → exec .hKick t = .next u → u.kick = true ∧ u.st = Ctrl.drain) ∧
    (exec .hKick s = .next t → exec .kickClr t = .next u → u.kick = false ∧ u.st = Ctrl.drain)

/-- Rule R147: until the host kicks (or resets), any moves leave the block in KICK_POLL and every message queued, in order. -/
def Obligations.MessageWithoutKickStaysQueued : Prop :=
  ∀ (s : State) (ms : List Move), s.st = Ctrl.kickPoll → s.kick = false → s.fault = none →
    (∀ m ∈ ms, m.wellFormed = true ∧ m ≠ .host 1#3 .none ∧ m ≠ .host 4#3 .none) →
    ∃ t, runMoves ms s = .next t ∧ t.st = Ctrl.kickPoll ∧ t.kick = false ∧ ∃ later, t.rxq = s.rxq ++ later

/-- Rule R117 (weak fairness, the spec's decision D31, log entry 13): under a fair schedule of moves without a reset, a pending
kick is seen. -/
def Obligations.PendingKickIsSeenUnderFairness : Prop :=
  ∀ (s : State) (sched : Nat → Move), s.st = Ctrl.kickPoll → s.kick = true → s.fault = none → Fair sched →
    (∀ j, (sched j).wellFormed = true ∧ sched j ≠ .host 4#3 .none) →
    ∃ k t, runMoves (firstMoves sched k) s = .next t ∧ t.st = Ctrl.kickClr

/-! ## Sampler -/

/-- Rule R164: EDGE_POLL records the control line at every poll and goes on exactly at a transition in either direction. -/
def Obligations.EdgePollDetectsEveryTransition : Prop :=
  ∀ s : State, exec .edgePoll s = .next { s with
    prev := s.draws.pins.bit s.cfg.val.ctrlBit
    st := if s.draws.pins.bit s.cfg.val.ctrlBit ≠ s.prev then Ctrl.clkIdleLow else Ctrl.edgePoll }

/-- Rule R165: CLK_IDLE_LOW clears the clock bit of OUT and no other bit. -/
def Obligations.ClkIdleLowForcesTheClockLow : Prop :=
  ∀ s : State, exec .clkIdleLow s = .next { s with out := s.out &&& ~~~(1#32 <<< s.cfg.val.clkBit), st := Ctrl.startTest }

/-- Rule R167: START_TEST begins an acquisition, with `acc` and `n` cleared, exactly when the start line reads low. -/
def Obligations.StartTestBeginsWhenLow : Prop :=
  ∀ s : State, exec .startTest s = .next
    (if s.draws.pins.bit s.cfg.val.startBit = false then { s with acc := 0#32, n := 0#5, st := Ctrl.clkRise }
     else { s with st := Ctrl.edgePoll })

/-- Rules R168 and R8: CLK_RISE sets the clock bit, loads `T_HI` and always holds: the spec's own inference from R8 and
R160, because an admitted `T_HI` is not 0. -/
def Obligations.ClkRiseSetsTheClockAndHolds : Prop :=
  ∀ s : State, exec .clkRise s = .next { s with
    out := s.out ||| 1#32 <<< s.cfg.val.clkBit, dly := s.cfg.val.tHi, st := Ctrl.holdHi }

/-- Rules R160, R169 and R177: HOLD_HI and HOLD_STB count down and leave when the count reaches 0. -/
def Obligations.HoldHiAndHoldStbCountDown : Prop :=
  ∀ s : State,
    exec .holdHi s = .next { s with
      dly := s.dly - 1#32, st := if s.dly - 1#32 = 0#32 then Ctrl.shiftIn else Ctrl.holdHi } ∧
    exec .holdStb s = .next { s with
      dly := s.dly - 1#32, st := if s.dly - 1#32 = 0#32 then Ctrl.stbFall else Ctrl.holdStb }

/-- Rule R170: SHIFT_IN shifts `acc` left by one, takes the data line into bit 0 and counts the bit. -/
def Obligations.ShiftInTakesTheDataBit : Prop :=
  ∀ s : State, ∃ t, exec .shiftIn s = .next t ∧
    t = { s with acc := t.acc, n := s.n + 1#5, st := Ctrl.clkFall } ∧
    t.acc.bit 0 = s.draws.pins.bit s.cfg.val.dataBit ∧ ∀ i < 31, t.acc.bit (i + 1) = s.acc.bit i

/-- Rules R171 and R161: CLK_FALL clears the clock bit and loads `T_LO`; with `T_LO` = 0 the bit counter picks the successor
at once, and a count above 24 raises `BadCounter` before any write (rule R245). -/
def Obligations.ClkFallClearsTheClock : Prop :=
  ∀ s : State, exec .clkFall s = .next
    (if s.cfg.val.tLo = 0#32 ∧ 24 < s.n.toNat then { s with fault := some (.badCounter s.n) }
     else { s with
      out := s.out &&& ~~~(1#32 <<< s.cfg.val.clkBit)
      dly := s.cfg.val.tLo
      st := if s.cfg.val.tLo ≠ 0#32 then Ctrl.holdLo else if s.n = 24#5 then Ctrl.signExt else Ctrl.clkRise })

/-- Rules R172, R160 and R161: HOLD_LO counts down; at the end the 24th bit goes to SIGN_EXT, an earlier one to the next
clock pulse, and a count above 24 raises `BadCounter` before any write (rule R245). -/
def Obligations.HoldLoEndsTheBit : Prop :=
  ∀ s : State, exec .holdLo s = .next
    (if s.dly - 1#32 = 0#32 ∧ 24 < s.n.toNat then { s with fault := some (.badCounter s.n) }
     else { s with
      dly := s.dly - 1#32
      st := if s.dly - 1#32 ≠ 0#32 then Ctrl.holdLo else if s.n = 24#5 then Ctrl.signExt else Ctrl.clkRise })

/-- Rule R160: a hold state entered with `dly` = T, not 0, takes exactly T block steps, and OUT does not change in them. -/
def Obligations.HoldLastsExactlyItsCount : Prop :=
  ∀ (s : State) (x : Ctrl) (ds : List Draws),
    (s.st = Ctrl.holdHi ∧ x = Ctrl.shiftIn) ∨ (s.st = Ctrl.holdStb ∧ x = Ctrl.stbFall) ∨
      (s.st = Ctrl.holdLo ∧ afterLo s.n = .ok x) →
    s.fault = none → s.dly ≠ 0#32 → ds.length = s.dly.toNat →
    (∃ t, runMoves (ds.map .block) s = .next t ∧ t.st = x ∧ t.dly = 0#32 ∧ t.out = s.out) ∧
    ∀ k < ds.length, ∃ t, runMoves ((ds.take k).map .block) s = .next t ∧ t.st = s.st ∧ t.out = s.out

/-- Rule R174 with rule R175: SIGN_EXT writes the sign extension of the low 24 bits of `acc`. -/
def Obligations.SignExtExtendsTheLow24Bits : Prop :=
  ∀ s : State, exec .signExt s = .next { s with smp := (s.acc.setWidth 24).signExtend 32, st := Ctrl.emit }

/-- Rule R175: the two shifts are `sext_24`, they give back every 24-bit two's-complement integer, and the value by bit 23. -/
def Obligations.ShiftPairIsSignExtension : Prop :=
  (∀ acc : Word, (acc.shl32 8).asr32 8 = acc.sext24) ∧
  (∀ (v : Int) (acc : Word), -2 ^ 23 ≤ v → v ≤ 2 ^ 23 - 1 → ((acc.setWidth 24).toNat : Int) = v % 2 ^ 24 →
    ((acc.shl32 8).asr32 8).toInt = v) ∧
  (∀ acc : Word, ((acc.shl32 8).asr32 8).toInt =
    if acc.bit 23 = false then ((acc.setWidth 24).toNat : Int) else ((acc.setWidth 24).toNat : Int) - 2 ^ 24)

/-- Rules R176 and R178: the strobe rises with its hold loaded (or skipped if `T_STB` = 0) and falls back to polling. -/
def Obligations.StrobeRisesAndFalls : Prop :=
  ∀ s : State,
    exec .stbRise s = .next { s with
      out := s.out ||| 1#32 <<< s.cfg.val.stbBit, dly := s.cfg.val.tStb
      st := if s.cfg.val.tStb = 0#32 then Ctrl.stbFall else Ctrl.holdStb } ∧
    exec .stbFall s = .next { s with out := s.out &&& ~~~(1#32 <<< s.cfg.val.stbBit), st := Ctrl.edgePoll }

/-- Rule R163: once in Sampling, every move but a reset stays there. -/
def Obligations.SamplingIsNeverLeft : Prop :=
  ∀ s t : State, s.sampling → step s = .next t → t.sampling ∨ s.resetIsNext

/-! ## Batch and dispatch -/

/-- Rules R200 and R61: EMIT stores the sample at the index and goes to SEND with the tenth; an index of 10 or more raises
`BadIndex` and writes nothing else. -/
def Obligations.EmitStoresTheSample : Prop :=
  ∀ s : State,
    (∀ h : s.idx.toNat < 10, exec .emit s = .next { s with
      batch := s.batch.set s.idx.toNat s.smp h, idx := s.idx + 1#4
      st := if s.idx = 9#4 then Ctrl.send else Ctrl.stbRise }) ∧
    (10 ≤ s.idx.toNat → exec .emit s = .next { s with fault := some (.badIndex s.idx) })

/-- Rule R201: SEND empties the index and enqueues the reply exactly when the transport takes it; an index other than 10
raises `BadIndex` and writes nothing else. -/
def Obligations.SendEnqueuesTheReplyOrDropsIt : Prop :=
  ∀ s : State,
    (s.idx = 10#4 → exec .send s = .next { s with
      idx := 0#4, st := Ctrl.stbRise
      txq := if s.draws.txOk = true ∧ s.txq.length < s.cfg.val.txqCap then
          s.txq ++ [⟨s.recDst, s.recSrc, payloadOf s.batch⟩]
        else s.txq }) ∧
    (s.idx ≠ 10#4 → exec .send s = .next { s with fault := some (.badIndex s.idx) })

/-- Rules R63 and R64: a payload has 40 bytes, byte 4i + k is bits 8k+7..8k of batch entry i, and 16-bit half 2i + k
is bits 16k+15..16k of it. The byte order is the spec's decision D15, which rests on general knowledge (log entry 16). -/
def Obligations.PayloadIsLittleEndian : Prop :=
  ∀ b : Vector Word 10, (payloadOf b).length = 40 ∧
    (∀ (i k : Nat) (h : i < 10), k < 4 → payloadByte (payloadOf b) (4 * i + k) = some (b[i].extractLsb' (8 * k) 8)) ∧
    ∀ (i k : Nat) (h : i < 10), k < 2 → payloadHalf (payloadOf b) (2 * i + k) = some (b[i].extractLsb' (16 * k) 16)

/-! ## Host actions, launch and configuration -/

/-- Rules R220 and R221: H_STATUS writes the status field and H_KICK sets the latch, and nothing else changes. -/
def Obligations.HostWritesStatusAndKick : Prop :=
  ∀ (s : State) (v : Byte),
    exec (.hStatus v) s = .next { s with hostStatus := v } ∧ exec .hKick s = .next { s with kick := true }

/-- Rule R222: H_PUSH appends the message if RXQ has room and has no effect otherwise. -/
def Obligations.HostPushAppendsIfRoom : Prop :=
  ∀ (s : State) (src dst : Word) (p : List Byte), exec (.hPush src dst p) s = .next
    (if s.rxq.length < s.cfg.val.rxqCap then { s with rxq := s.rxq ++ [⟨src, dst, p⟩] } else s)

/-- Rule R223: H_POP hands the head of TXQ to the host, and has no effect on an empty TXQ. The messages the host holds are
the model's field `hostInbox` (log entry 9). -/
def Obligations.HostPopTakesTheHead : Prop :=
  (∀ (s : State) (m : Message) (rest : List Message), s.txq = m :: rest →
    exec .hPop s = .next { s with txq := rest, hostInbox := s.hostInbox ++ [m] }) ∧
  (∀ s : State, s.txq = [] → exec .hPop s = .next s)

/-- Rules R224, R260 and R38: H_RESET sets `st`, `idx` and OUT, gives the drawn and unobservable registers some values, and leaves
the fault record, the host side and the model's own fields as they are. -/
def Obligations.ResetSetsTheBlock : Prop :=
  ∀ s : State, ∃ d : ResetDraw, exec .hReset s = .next { s with
    st := Ctrl.hsWait, idx := 0#4, out := s.cfg.val.outInit, prev := d.prev, kick := d.kick
    acc := d.acc, n := d.n, dly := d.dly, smp := d.smp, batch := d.batch, recSrc := d.recSrc, recDst := d.recDst }

/-- Rules R260 and R262: a launch state is at HS_WAIT with an empty batch, OUT at `OUT_INIT`, empty queues and no fault, for
any draws and any host status; the state after power-on is one under the default configuration, which is the model's choice
(log entry 2). -/
def Obligations.LaunchStateIsAResetState : Prop :=
  (∀ (c : Config) (prev kick : Bool) (v : Byte), ∃ s, s = State.launch c prev kick v ∧ s.st = Ctrl.hsWait ∧ s.idx = 0#4 ∧
    s.out = c.val.outInit ∧ s.prev = prev ∧ s.kick = kick ∧ s.hostStatus = v ∧ s.rxq = [] ∧ s.txq = [] ∧ s.fault = none) ∧
  ∃ prev kick v, State.reset = State.launch Config.default prev kick v

/-- Rule R8: a configuration is launched exactly when it passes the five checks, and is refused otherwise. That it is refused under its
first failed check's name is the model's choice (log entry 19). -/
def Obligations.OnlyAdmittedConfigurationsLaunch : Prop :=
  ∀ (r : RawConfig) (prev kick : Bool) (v : Byte),
    ((∃ s, launch r prev kick v = .next s ∧ s.cfg.val = r) ↔
      r.kickBit ≤ 31 ∧ r.ctrlBit ≤ 31 ∧ r.dataBit ≤ 31 ∧ r.startBit ≤ 31 ∧ r.clkBit ≤ 31 ∧ r.stbBit ≤ 31 ∧ r.readyBit ≤ 7 ∧
      r.kickBit ≠ r.ctrlBit ∧ r.kickBit ≠ r.dataBit ∧ r.kickBit ≠ r.startBit ∧ r.clkBit ≠ r.stbBit ∧
      r.tLo.toNat < r.tHi.toNat ∧ 1 ≤ r.txqCap ∧ 1 ≤ r.rxqCap) ∧
    (∀ k, r.failedCheck = some k → launch r prev kick v = .refused (.configRefused k))

/-! ## The latches -/

/-- Rule R112: bit `KICK_BIT` of the snapshot is the kick latch, and every other bit is its pin. -/
def Obligations.SnapshotShowsKickAndPins : Prop :=
  ∀ (s : State) (b : Nat), b < 32 →
    s.inLatch.bit b = if b = s.cfg.val.kickBit then s.kick else s.draws.pins.bit b

/-- Rules R113 and R275: no move writes a bit of OUT other than CLK and STB, but for a reset. -/
def Obligations.OnlyClkAndStbAreWritten : Prop :=
  ∀ s t : State, step s = .next t → ¬s.resetIsNext →
    ∀ b < 32, b ≠ s.cfg.val.clkBit → b ≠ s.cfg.val.stbBit → t.out.bit b = s.out.bit b

/-! ## Frames: the only writers of each register -/

/-- Rules R22 to R26: the only operations that write `acc`, `n`, `dly`, `prev` and the sample register. -/
def Obligations.DatapathRegistersHaveTheseWriters : Prop :=
  ∀ (i : Instr) (s t : State), exec i s = .next t →
    (t.acc = s.acc ∧ t.n = s.n ∨ i = .startTest ∨ i = .shiftIn ∨ i = .hReset) ∧
    (t.dly = s.dly ∨ i = .clkRise ∨ i = .holdHi ∨ i = .clkFall ∨ i = .holdLo ∨ i = .stbRise ∨ i = .holdStb ∨ i = .hReset) ∧
    (t.prev = s.prev ∨ i = .edgePoll ∨ i = .hReset) ∧
    (t.smp = s.smp ∨ i = .signExt ∨ i = .hReset)

/-- Rules R27 to R29: the only operations that write the index, the batch and the endpoint registers. -/
def Obligations.BatchRegistersHaveTheseWriters : Prop :=
  ∀ (i : Instr) (s t : State), exec i s = .next t →
    (t.idx = s.idx ∨ i = .emit ∨ i = .send ∨ i = .hReset) ∧
    (t.batch = s.batch ∨ i = .emit ∨ i = .hReset) ∧
    (t.recSrc = s.recSrc ∧ t.recDst = s.recDst ∨ i = .drain ∨ i = .hReset)

/-- Rules R30 to R34: the only operations that write the kick latch, OUT, the fault record, the status field and the queues.
The host's actions write no block register but `kick`, reset apart (rule R225). -/
def Obligations.InterfaceHasTheseWriters : Prop :=
  ∀ (i : Instr) (s t : State), exec i s = .next t →
    (t.kick = s.kick ∨ i = .kickClr ∨ i = .hKick ∨ i = .hReset) ∧
    (t.out = s.out ∨ i = .clkIdleLow ∨ i = .clkRise ∨ i = .clkFall ∨ i = .stbRise ∨ i = .stbFall ∨ i = .hReset) ∧
    (t.fault = s.fault ∨ i = .clkFall ∨ i = .holdLo ∨ i = .emit ∨ i = .send) ∧
    (t.hostStatus = s.hostStatus ∨ ∃ v, i = .hStatus v) ∧
    (t.rxq = s.rxq ∨ i = .drain ∨ ∃ src dst p, i = .hPush src dst p) ∧
    (t.txq = s.txq ∨ i = .send ∨ i = .hPop) ∧
    (t.hostInbox = s.hostInbox ∨ i = .hPop) ∧
    (t.st = s.st ∨ (∃ c, encode i = .state5 c) ∨ i = .hReset) ∧
    t.cfg = s.cfg ∧ t.draws = s.draws ∧ t.tick = s.tick ∧ t.script = s.script

/-! ## What an operation does not depend on -/

/-- Rule R245 (a): the pins reach only EDGE_POLL, START_TEST and SHIFT_IN, the announcement draw only the two announcements,
and the acceptance draw only SEND. -/
def Obligations.DrawsReachOnlyTheirOperations : Prop :=
  ∀ (i : Instr) (s : State) (d : Draws),
    (d.pins = s.draws.pins ∨ (i ≠ .edgePoll ∧ i ≠ .startTest ∧ i ≠ .shiftIn)) →
    (d.annOk = s.draws.annOk ∨ (i ≠ .hsAnn0 ∧ i ≠ .hsAnn1)) →
    (d.txOk = s.draws.txOk ∨ i ≠ .send) →
    ∃ t, exec i s = .next t ∧ exec i { s with draws := d } = .next { t with draws := d }

/-- Rules R112, R243 and R33: no operation depends on the pin at `KICK_BIT`, none but KICK_POLL on the kick latch, and none
but HS_WAIT on the host status, where the operation does not write that latch or field itself. -/
def Obligations.KickAndStatusReachOnlyTheirOperations : Prop :=
  ∀ (i : Instr) (s : State),
    (∀ level, ∃ t, exec i s = .next t ∧
      exec i { s with draws := { s.draws with pins := setPin s.draws.pins s.cfg.val.kickBit level } } =
        .next { t with draws := { s.draws with pins := setPin s.draws.pins s.cfg.val.kickBit level } }) ∧
    (∀ k, i ≠ .kickPoll → i ≠ .kickClr → i ≠ .hKick → i ≠ .hReset →
      ∃ t, exec i s = .next t ∧ exec i { s with kick := k } = .next { t with kick := k }) ∧
    (∀ v, i ≠ .hsWait → (∀ w, i ≠ .hStatus w) →
      ∃ t, exec i s = .next t ∧ exec i { s with hostStatus := v } = .next { t with hostStatus := v })

/-- Rules R164 and R271: where CTRL has a bit of its own, its level matters at EDGE_POLL only. -/
def Obligations.ControlLineIsSeenOnlyAtEdgePoll : Prop :=
  ∀ (i : Instr) (s : State) (level : Bool), i ≠ .edgePoll →
    s.cfg.val.ctrlBit ≠ s.cfg.val.dataBit → s.cfg.val.ctrlBit ≠ s.cfg.val.startBit →
    ∃ t, exec i s = .next t ∧
      exec i { s with draws := { s.draws with pins := setPin s.draws.pins s.cfg.val.ctrlBit level } } =
        .next { t with draws := { s.draws with pins := setPin s.draws.pins s.cfg.val.ctrlBit level } }

/-! ## Invariants and whole-machine rules -/

/-- The invariant of the control and data path is kept by every step (rules R21, R23, R27, R160, R161, R173, R203, R241). -/
def Obligations.StepKeepsTheInvariant : Prop := ∀ s t : State, s.Inv → step s = .next t → t.Inv

/-- The invariant holds after power-on. -/
def Obligations.ResetMeetsTheInvariant : Prop := State.reset.Inv

/-- Rules R241 and R117: from a launch state, no run of block steps and host actions stops or records a fault. -/
def Obligations.NoRunFromLaunchFaults : Prop :=
  ∀ (r : RawConfig) (prev kick : Bool) (v : Byte) (s : State) (ms : List Move), launch r prev kick v = .next s →
    (∀ m ∈ ms, m.wellFormed = true) → ∃ t, runMoves ms s = .next t ∧ t.fault = none ∧ t.Inv

/-- Rules R165 to R178 and R275: every step keeps the levels of the output pins as the control state says. -/
def Obligations.StepKeepsThePinLevels : Prop := ∀ s t : State, s.PinLevels → step s = .next t → t.PinLevels

/-- The pin levels hold after power-on. -/
def Obligations.ResetMeetsThePinLevels : Prop := State.reset.PinLevels

/-- Rules R71, R201 and R204: the messages the host has taken, followed by those still in TXQ, only ever grow by the message
SEND builds, at the end: nothing is reordered, duplicated or lost once it is in TXQ. The messages the host has taken are the
model's field `hostInbox` (log entry 9). -/
def Obligations.MessagesReachTheHostInOrder : Prop :=
  ∀ s t : State, step s = .next t →
    t.hostInbox ++ t.txq = s.hostInbox ++ s.txq ∨
    (s.st = Ctrl.send ∧ t.hostInbox ++ t.txq = s.hostInbox ++ s.txq ++ [⟨s.recDst, s.recSrc, payloadOf s.batch⟩])

/-- Rules R146 and R205: in Sampling no move but a reset dequeues an inbound message or changes the recorded endpoints. -/
def Obligations.SamplingDrainsNothing : Prop :=
  ∀ s t : State, s.sampling → step s = .next t → ¬s.resetIsNext →
    (t.rxq = s.rxq ∨ ∃ m, t.rxq = s.rxq ++ [m]) ∧ t.recSrc = s.recSrc ∧ t.recDst = s.recDst

/-- Rule R240: the error conditions EC1 to EC5 are handled in place and record nothing. -/
def Obligations.ErrorConditionsAreHandledInPlace : Prop :=
  ∀ s : State,
    (s.hostStatus.getLsbD s.cfg.val.readyBit = false → exec .hsWait s = .next { s with st := Ctrl.hsWait }) ∧
    (s.draws.annOk = false → exec .hsAnn0 s = .next { s with st := Ctrl.hsAnn0 } ∧
      exec .hsAnn1 s = .next { s with st := Ctrl.hsAnn1 }) ∧
    (s.idx = 10#4 → s.draws.txOk = false ∨ s.cfg.val.txqCap ≤ s.txq.length →
      exec .send s = .next { s with idx := 0#4, st := Ctrl.stbRise }) ∧
    (∀ m rest, s.rxq = m :: rest →
      exec .drain s = .next { s with rxq := rest, recSrc := m.src, recDst := m.dst, st := Ctrl.edgePoll }) ∧
    (s.draws.pins.bit s.cfg.val.startBit = true → exec .startTest s = .next { s with st := Ctrl.edgePoll })

/-! ## Whole acquisitions -/

/-- Rules R92, R164 to R178, R200 and R201: from EDGE_POLL, the moves of an acquisition of any 24-bit value, under any
admitted configuration, end in EDGE_POLL with the sign-extended value stored, the counter at 24, the word in `acc`, CLK and STB
low, and the batch sent if it was the tenth. -/
def Obligations.AcquisitionStoresTheSignExtendedValue : Prop :=
  ∀ (s : State) (v : BitVec 24) (h : s.idx.toNat < 10), s.st = Ctrl.edgePoll → s.fault = none →
    ∃ t, runMoves (s.acquireMoves v .full) s = .next t ∧
      t.st = Ctrl.edgePoll ∧ t.fault = none ∧ t.prev = (!s.prev) ∧ t.n = 24#5 ∧ t.acc = v.setWidth 32 ∧
      t.smp = v.signExtend 32 ∧ t.batch = s.batch.set s.idx.toNat (v.signExtend 32) h ∧
      t.idx = (if s.idx = 9#4 then 0#4 else s.idx + 1#4) ∧
      t.txq = (if s.idx = 9#4 ∧ s.txq.length < s.cfg.val.txqCap then
          s.txq ++ [⟨s.recDst, s.recSrc, payloadOf t.batch⟩] else s.txq) ∧
      t.out = s.out &&& ~~~(1#32 <<< s.cfg.val.clkBit) &&& ~~~(1#32 <<< s.cfg.val.stbBit) ∧
      t.rxq = s.rxq ∧ t.kick = s.kick ∧ t.recSrc = s.recSrc ∧ t.recDst = s.recDst ∧ t.cfg = s.cfg ∧ t.script = s.script

/-- Rules R226, R179, R164 to R178, R200 and R201: from EDGE_POLL, the block steps of one acquisition's cycles, with any draws
that meet the converter's duties for a 24-bit value, store its sign extension and end in EDGE_POLL; the batch is sent if it was
the tenth and the transport takes it at the cycle of SEND. -/
def Obligations.ConverterDutiesGiveTheSample : Prop :=
  ∀ (s : State) (v : BitVec 24) (ds : Nat → Draws) (h : s.idx.toNat < 10), s.st = Ctrl.edgePoll → s.fault = none →
    ConverterDuties s.cfg.val s.prev v ds →
    ∃ t, runMoves (blockMoves ds (acquisitionCycles s.cfg.val (s.idx == 9#4))) s = .next t ∧
      t.st = Ctrl.edgePoll ∧ t.fault = none ∧ t.prev = (!s.prev) ∧ t.smp = v.signExtend 32 ∧
      t.batch = s.batch.set s.idx.toNat (v.signExtend 32) h ∧ t.idx = (if s.idx = 9#4 then 0#4 else s.idx + 1#4) ∧
      t.txq = (if s.idx = 9#4 ∧ (ds (5 + 24 * bitCycles s.cfg.val)).txOk = true ∧ s.txq.length < s.cfg.val.txqCap then
          s.txq ++ [⟨s.recDst, s.recSrc, payloadOf t.batch⟩] else s.txq) ∧
      t.rxq = s.rxq ∧ t.kick = s.kick ∧ t.recSrc = s.recSrc ∧ t.recDst = s.recDst

/-- Rules R179 and R92: the moves of an acquisition of any 24-bit value are as many as R179's cycle count; run from EDGE_POLL,
the block is outside EDGE_POLL after the first k of them for every k between, and back in EDGE_POLL after all of them. -/
def Obligations.AcquisitionTakesTheseCycles : Prop :=
  (∀ (s : State) (v : BitVec 24), (s.acquireMoves v .full).length =
    7 + 24 * (3 + s.cfg.val.tHi.toNat + s.cfg.val.tLo.toNat) + s.cfg.val.tStb.toNat +
      (if s.idx.toNat = 9 then 1 else 0)) ∧
  ∀ (s : State) (v : BitVec 24), s.st = Ctrl.edgePoll → s.fault = none → s.idx.toNat < 10 →
    (∀ k, 0 < k → k < (s.acquireMoves v .full).length →
      ∃ t, runMoves ((s.acquireMoves v .full).take k) s = .next t ∧ t.st ≠ Ctrl.edgePoll) ∧
    ∃ t, runMoves (s.acquireMoves v .full) s = .next t ∧ t.st = Ctrl.edgePoll

/-- Rules R92, R166 and R167: a transition with the start line high takes three steps, stores no sample and ends in
EDGE_POLL with the clock low. -/
def Obligations.TransitionWithStartHighStoresNothing : Prop :=
  ∀ (s : State) (v : BitVec 24), s.st = Ctrl.edgePoll → s.fault = none →
    (s.acquireMoves v .nostart).length = 3 ∧
    ∃ t, runMoves (s.acquireMoves v .nostart) s = .next t ∧ t.st = Ctrl.edgePoll ∧ t.prev = (!s.prev) ∧
      t.idx = s.idx ∧ t.batch = s.batch ∧ t.acc = s.acc ∧ t.out = s.out &&& ~~~(1#32 <<< s.cfg.val.clkBit)

/-- Rules R202, R203 and R205: ten acquisitions from an empty batch send exactly one message, to the recorded source, with the
ten sign-extended values in order; if the transport refuses it, nothing is sent; either way the batch is empty again. The byte
order is the spec's decision D15 (log entry 16). -/
def Obligations.TenAcquisitionsSendOneBatch : Prop :=
  ∀ (s : State) (vs : List (BitVec 24)) (v : BitVec 24) (m : AcquireMode), vs.length = 9 → m ≠ .nostart →
    s.st = Ctrl.edgePoll → s.fault = none → s.idx = 0#4 → s.txq.length < s.cfg.val.txqCap →
    ∃ t, runLines (vs.map (ScriptLine.acquire · .full) ++ [.acquire v m]) s = .next t ∧
      t.st = Ctrl.edgePoll ∧ t.idx = 0#4 ∧ t.hostInbox = s.hostInbox ∧
      t.txq = (if m = .full then
          s.txq ++ [⟨s.recDst, s.recSrc, (vs ++ [v]).flatMap fun x => wordBytes (x.signExtend 32)⟩] else s.txq)
end

