-- ==== Sys2Proof/Laws/State.lean ====
section
/-!
SUPPORT. What every field of the state is after each named update: one lemma per field per update, true by definition.
-/

namespace Sys2Proof.Machine

variable (s : State)

/-! `State.goto` -/

@[simp] theorem State.goto_cfg (c : Ctrl) : (s.goto c).cfg = s.cfg := rfl
@[simp] theorem State.goto_st (c : Ctrl) : (s.goto c).st = c := rfl
@[simp] theorem State.goto_acc (c : Ctrl) : (s.goto c).acc = s.acc := rfl
@[simp] theorem State.goto_n (c : Ctrl) : (s.goto c).n = s.n := rfl
@[simp] theorem State.goto_dly (c : Ctrl) : (s.goto c).dly = s.dly := rfl
@[simp] theorem State.goto_prev (c : Ctrl) : (s.goto c).prev = s.prev := rfl
@[simp] theorem State.goto_smp (c : Ctrl) : (s.goto c).smp = s.smp := rfl
@[simp] theorem State.goto_idx (c : Ctrl) : (s.goto c).idx = s.idx := rfl
@[simp] theorem State.goto_batch (c : Ctrl) : (s.goto c).batch = s.batch := rfl
@[simp] theorem State.goto_recSrc (c : Ctrl) : (s.goto c).recSrc = s.recSrc := rfl
@[simp] theorem State.goto_recDst (c : Ctrl) : (s.goto c).recDst = s.recDst := rfl
@[simp] theorem State.goto_kick (c : Ctrl) : (s.goto c).kick = s.kick := rfl
@[simp] theorem State.goto_out (c : Ctrl) : (s.goto c).out = s.out := rfl
@[simp] theorem State.goto_fault (c : Ctrl) : (s.goto c).fault = s.fault := rfl
@[simp] theorem State.goto_hostStatus (c : Ctrl) : (s.goto c).hostStatus = s.hostStatus := rfl
@[simp] theorem State.goto_rxq (c : Ctrl) : (s.goto c).rxq = s.rxq := rfl
@[simp] theorem State.goto_txq (c : Ctrl) : (s.goto c).txq = s.txq := rfl
@[simp] theorem State.goto_hostInbox (c : Ctrl) : (s.goto c).hostInbox = s.hostInbox := rfl
@[simp] theorem State.goto_draws (c : Ctrl) : (s.goto c).draws = s.draws := rfl
@[simp] theorem State.goto_tick (c : Ctrl) : (s.goto c).tick = s.tick := rfl
@[simp] theorem State.goto_script (c : Ctrl) : (s.goto c).script = s.script := rfl

/-! `State.raise` -/

@[simp] theorem State.raise_cfg (r : Fault) : (s.raise r).cfg = s.cfg := rfl
@[simp] theorem State.raise_st (r : Fault) : (s.raise r).st = s.st := rfl
@[simp] theorem State.raise_acc (r : Fault) : (s.raise r).acc = s.acc := rfl
@[simp] theorem State.raise_n (r : Fault) : (s.raise r).n = s.n := rfl
@[simp] theorem State.raise_dly (r : Fault) : (s.raise r).dly = s.dly := rfl
@[simp] theorem State.raise_prev (r : Fault) : (s.raise r).prev = s.prev := rfl
@[simp] theorem State.raise_smp (r : Fault) : (s.raise r).smp = s.smp := rfl
@[simp] theorem State.raise_idx (r : Fault) : (s.raise r).idx = s.idx := rfl
@[simp] theorem State.raise_batch (r : Fault) : (s.raise r).batch = s.batch := rfl
@[simp] theorem State.raise_recSrc (r : Fault) : (s.raise r).recSrc = s.recSrc := rfl
@[simp] theorem State.raise_recDst (r : Fault) : (s.raise r).recDst = s.recDst := rfl
@[simp] theorem State.raise_kick (r : Fault) : (s.raise r).kick = s.kick := rfl
@[simp] theorem State.raise_out (r : Fault) : (s.raise r).out = s.out := rfl
@[simp] theorem State.raise_fault (r : Fault) : (s.raise r).fault = some r := rfl
@[simp] theorem State.raise_hostStatus (r : Fault) : (s.raise r).hostStatus = s.hostStatus := rfl
@[simp] theorem State.raise_rxq (r : Fault) : (s.raise r).rxq = s.rxq := rfl
@[simp] theorem State.raise_txq (r : Fault) : (s.raise r).txq = s.txq := rfl
@[simp] theorem State.raise_hostInbox (r : Fault) : (s.raise r).hostInbox = s.hostInbox := rfl
@[simp] theorem State.raise_draws (r : Fault) : (s.raise r).draws = s.draws := rfl
@[simp] theorem State.raise_tick (r : Fault) : (s.raise r).tick = s.tick := rfl
@[simp] theorem State.raise_script (r : Fault) : (s.raise r).script = s.script := rfl

/-! `State.setOut` -/

@[simp] theorem State.setOut_cfg (mask : Word) : (s.setOut mask).cfg = s.cfg := rfl
@[simp] theorem State.setOut_st (mask : Word) : (s.setOut mask).st = s.st := rfl
@[simp] theorem State.setOut_acc (mask : Word) : (s.setOut mask).acc = s.acc := rfl
@[simp] theorem State.setOut_n (mask : Word) : (s.setOut mask).n = s.n := rfl
@[simp] theorem State.setOut_dly (mask : Word) : (s.setOut mask).dly = s.dly := rfl
@[simp] theorem State.setOut_prev (mask : Word) : (s.setOut mask).prev = s.prev := rfl
@[simp] theorem State.setOut_smp (mask : Word) : (s.setOut mask).smp = s.smp := rfl
@[simp] theorem State.setOut_idx (mask : Word) : (s.setOut mask).idx = s.idx := rfl
@[simp] theorem State.setOut_batch (mask : Word) : (s.setOut mask).batch = s.batch := rfl
@[simp] theorem State.setOut_recSrc (mask : Word) : (s.setOut mask).recSrc = s.recSrc := rfl
@[simp] theorem State.setOut_recDst (mask : Word) : (s.setOut mask).recDst = s.recDst := rfl
@[simp] theorem State.setOut_kick (mask : Word) : (s.setOut mask).kick = s.kick := rfl
@[simp] theorem State.setOut_out (mask : Word) : (s.setOut mask).out = s.out ||| mask := rfl
@[simp] theorem State.setOut_fault (mask : Word) : (s.setOut mask).fault = s.fault := rfl
@[simp] theorem State.setOut_hostStatus (mask : Word) : (s.setOut mask).hostStatus = s.hostStatus := rfl
@[simp] theorem State.setOut_rxq (mask : Word) : (s.setOut mask).rxq = s.rxq := rfl
@[simp] theorem State.setOut_txq (mask : Word) : (s.setOut mask).txq = s.txq := rfl
@[simp] theorem State.setOut_hostInbox (mask : Word) : (s.setOut mask).hostInbox = s.hostInbox := rfl
@[simp] theorem State.setOut_draws (mask : Word) : (s.setOut mask).draws = s.draws := rfl
@[simp] theorem State.setOut_tick (mask : Word) : (s.setOut mask).tick = s.tick := rfl
@[simp] theorem State.setOut_script (mask : Word) : (s.setOut mask).script = s.script := rfl

/-! `State.clrOut` -/

@[simp] theorem State.clrOut_cfg (mask : Word) : (s.clrOut mask).cfg = s.cfg := rfl
@[simp] theorem State.clrOut_st (mask : Word) : (s.clrOut mask).st = s.st := rfl
@[simp] theorem State.clrOut_acc (mask : Word) : (s.clrOut mask).acc = s.acc := rfl
@[simp] theorem State.clrOut_n (mask : Word) : (s.clrOut mask).n = s.n := rfl
@[simp] theorem State.clrOut_dly (mask : Word) : (s.clrOut mask).dly = s.dly := rfl
@[simp] theorem State.clrOut_prev (mask : Word) : (s.clrOut mask).prev = s.prev := rfl
@[simp] theorem State.clrOut_smp (mask : Word) : (s.clrOut mask).smp = s.smp := rfl
@[simp] theorem State.clrOut_idx (mask : Word) : (s.clrOut mask).idx = s.idx := rfl
@[simp] theorem State.clrOut_batch (mask : Word) : (s.clrOut mask).batch = s.batch := rfl
@[simp] theorem State.clrOut_recSrc (mask : Word) : (s.clrOut mask).recSrc = s.recSrc := rfl
@[simp] theorem State.clrOut_recDst (mask : Word) : (s.clrOut mask).recDst = s.recDst := rfl
@[simp] theorem State.clrOut_kick (mask : Word) : (s.clrOut mask).kick = s.kick := rfl
@[simp] theorem State.clrOut_out (mask : Word) : (s.clrOut mask).out = s.out &&& ~~~mask := rfl
@[simp] theorem State.clrOut_fault (mask : Word) : (s.clrOut mask).fault = s.fault := rfl
@[simp] theorem State.clrOut_hostStatus (mask : Word) : (s.clrOut mask).hostStatus = s.hostStatus := rfl
@[simp] theorem State.clrOut_rxq (mask : Word) : (s.clrOut mask).rxq = s.rxq := rfl
@[simp] theorem State.clrOut_txq (mask : Word) : (s.clrOut mask).txq = s.txq := rfl
@[simp] theorem State.clrOut_hostInbox (mask : Word) : (s.clrOut mask).hostInbox = s.hostInbox := rfl
@[simp] theorem State.clrOut_draws (mask : Word) : (s.clrOut mask).draws = s.draws := rfl
@[simp] theorem State.clrOut_tick (mask : Word) : (s.clrOut mask).tick = s.tick := rfl
@[simp] theorem State.clrOut_script (mask : Word) : (s.clrOut mask).script = s.script := rfl

/-! `State.setDly` -/

@[simp] theorem State.setDly_cfg (v : Word) : (s.setDly v).cfg = s.cfg := rfl
@[simp] theorem State.setDly_st (v : Word) : (s.setDly v).st = s.st := rfl
@[simp] theorem State.setDly_acc (v : Word) : (s.setDly v).acc = s.acc := rfl
@[simp] theorem State.setDly_n (v : Word) : (s.setDly v).n = s.n := rfl
@[simp] theorem State.setDly_dly (v : Word) : (s.setDly v).dly = v := rfl
@[simp] theorem State.setDly_prev (v : Word) : (s.setDly v).prev = s.prev := rfl
@[simp] theorem State.setDly_smp (v : Word) : (s.setDly v).smp = s.smp := rfl
@[simp] theorem State.setDly_idx (v : Word) : (s.setDly v).idx = s.idx := rfl
@[simp] theorem State.setDly_batch (v : Word) : (s.setDly v).batch = s.batch := rfl
@[simp] theorem State.setDly_recSrc (v : Word) : (s.setDly v).recSrc = s.recSrc := rfl
@[simp] theorem State.setDly_recDst (v : Word) : (s.setDly v).recDst = s.recDst := rfl
@[simp] theorem State.setDly_kick (v : Word) : (s.setDly v).kick = s.kick := rfl
@[simp] theorem State.setDly_out (v : Word) : (s.setDly v).out = s.out := rfl
@[simp] theorem State.setDly_fault (v : Word) : (s.setDly v).fault = s.fault := rfl
@[simp] theorem State.setDly_hostStatus (v : Word) : (s.setDly v).hostStatus = s.hostStatus := rfl
@[simp] theorem State.setDly_rxq (v : Word) : (s.setDly v).rxq = s.rxq := rfl
@[simp] theorem State.setDly_txq (v : Word) : (s.setDly v).txq = s.txq := rfl
@[simp] theorem State.setDly_hostInbox (v : Word) : (s.setDly v).hostInbox = s.hostInbox := rfl
@[simp] theorem State.setDly_draws (v : Word) : (s.setDly v).draws = s.draws := rfl
@[simp] theorem State.setDly_tick (v : Word) : (s.setDly v).tick = s.tick := rfl
@[simp] theorem State.setDly_script (v : Word) : (s.setDly v).script = s.script := rfl

/-! `State.observeCtrl` -/

@[simp] theorem State.observeCtrl_cfg : (s.observeCtrl).cfg = s.cfg := rfl
@[simp] theorem State.observeCtrl_st : (s.observeCtrl).st = s.st := rfl
@[simp] theorem State.observeCtrl_acc : (s.observeCtrl).acc = s.acc := rfl
@[simp] theorem State.observeCtrl_n : (s.observeCtrl).n = s.n := rfl
@[simp] theorem State.observeCtrl_dly : (s.observeCtrl).dly = s.dly := rfl
@[simp] theorem State.observeCtrl_prev : (s.observeCtrl).prev = s.inCtrl := rfl
@[simp] theorem State.observeCtrl_smp : (s.observeCtrl).smp = s.smp := rfl
@[simp] theorem State.observeCtrl_idx : (s.observeCtrl).idx = s.idx := rfl
@[simp] theorem State.observeCtrl_batch : (s.observeCtrl).batch = s.batch := rfl
@[simp] theorem State.observeCtrl_recSrc : (s.observeCtrl).recSrc = s.recSrc := rfl
@[simp] theorem State.observeCtrl_recDst : (s.observeCtrl).recDst = s.recDst := rfl
@[simp] theorem State.observeCtrl_kick : (s.observeCtrl).kick = s.kick := rfl
@[simp] theorem State.observeCtrl_out : (s.observeCtrl).out = s.out := rfl
@[simp] theorem State.observeCtrl_fault : (s.observeCtrl).fault = s.fault := rfl
@[simp] theorem State.observeCtrl_hostStatus : (s.observeCtrl).hostStatus = s.hostStatus := rfl
@[simp] theorem State.observeCtrl_rxq : (s.observeCtrl).rxq = s.rxq := rfl
@[simp] theorem State.observeCtrl_txq : (s.observeCtrl).txq = s.txq := rfl
@[simp] theorem State.observeCtrl_hostInbox : (s.observeCtrl).hostInbox = s.hostInbox := rfl
@[simp] theorem State.observeCtrl_draws : (s.observeCtrl).draws = s.draws := rfl
@[simp] theorem State.observeCtrl_tick : (s.observeCtrl).tick = s.tick := rfl
@[simp] theorem State.observeCtrl_script : (s.observeCtrl).script = s.script := rfl

/-! `State.recordEndpoints` -/

@[simp] theorem State.recordEndpoints_cfg (m : Message) : (s.recordEndpoints m).cfg = s.cfg := rfl
@[simp] theorem State.recordEndpoints_st (m : Message) : (s.recordEndpoints m).st = s.st := rfl
@[simp] theorem State.recordEndpoints_acc (m : Message) : (s.recordEndpoints m).acc = s.acc := rfl
@[simp] theorem State.recordEndpoints_n (m : Message) : (s.recordEndpoints m).n = s.n := rfl
@[simp] theorem State.recordEndpoints_dly (m : Message) : (s.recordEndpoints m).dly = s.dly := rfl
@[simp] theorem State.recordEndpoints_prev (m : Message) : (s.recordEndpoints m).prev = s.prev := rfl
@[simp] theorem State.recordEndpoints_smp (m : Message) : (s.recordEndpoints m).smp = s.smp := rfl
@[simp] theorem State.recordEndpoints_idx (m : Message) : (s.recordEndpoints m).idx = s.idx := rfl
@[simp] theorem State.recordEndpoints_batch (m : Message) : (s.recordEndpoints m).batch = s.batch := rfl
@[simp] theorem State.recordEndpoints_recSrc (m : Message) : (s.recordEndpoints m).recSrc = m.src := rfl
@[simp] theorem State.recordEndpoints_recDst (m : Message) : (s.recordEndpoints m).recDst = m.dst := rfl
@[simp] theorem State.recordEndpoints_kick (m : Message) : (s.recordEndpoints m).kick = s.kick := rfl
@[simp] theorem State.recordEndpoints_out (m : Message) : (s.recordEndpoints m).out = s.out := rfl
@[simp] theorem State.recordEndpoints_fault (m : Message) : (s.recordEndpoints m).fault = s.fault := rfl
@[simp] theorem State.recordEndpoints_hostStatus (m : Message) : (s.recordEndpoints m).hostStatus = s.hostStatus := rfl
@[simp] theorem State.recordEndpoints_rxq (m : Message) : (s.recordEndpoints m).rxq = s.rxq := rfl
@[simp] theorem State.recordEndpoints_txq (m : Message) : (s.recordEndpoints m).txq = s.txq := rfl
@[simp] theorem State.recordEndpoints_hostInbox (m : Message) : (s.recordEndpoints m).hostInbox = s.hostInbox := rfl
@[simp] theorem State.recordEndpoints_draws (m : Message) : (s.recordEndpoints m).draws = s.draws := rfl
@[simp] theorem State.recordEndpoints_tick (m : Message) : (s.recordEndpoints m).tick = s.tick := rfl
@[simp] theorem State.recordEndpoints_script (m : Message) : (s.recordEndpoints m).script = s.script := rfl

/-! `State.withDraws` -/

@[simp] theorem State.withDraws_cfg (d : Draws) : (s.withDraws d).cfg = s.cfg := rfl
@[simp] theorem State.withDraws_st (d : Draws) : (s.withDraws d).st = s.st := rfl
@[simp] theorem State.withDraws_acc (d : Draws) : (s.withDraws d).acc = s.acc := rfl
@[simp] theorem State.withDraws_n (d : Draws) : (s.withDraws d).n = s.n := rfl
@[simp] theorem State.withDraws_dly (d : Draws) : (s.withDraws d).dly = s.dly := rfl
@[simp] theorem State.withDraws_prev (d : Draws) : (s.withDraws d).prev = s.prev := rfl
@[simp] theorem State.withDraws_smp (d : Draws) : (s.withDraws d).smp = s.smp := rfl
@[simp] theorem State.withDraws_idx (d : Draws) : (s.withDraws d).idx = s.idx := rfl
@[simp] theorem State.withDraws_batch (d : Draws) : (s.withDraws d).batch = s.batch := rfl
@[simp] theorem State.withDraws_recSrc (d : Draws) : (s.withDraws d).recSrc = s.recSrc := rfl
@[simp] theorem State.withDraws_recDst (d : Draws) : (s.withDraws d).recDst = s.recDst := rfl
@[simp] theorem State.withDraws_kick (d : Draws) : (s.withDraws d).kick = s.kick := rfl
@[simp] theorem State.withDraws_out (d : Draws) : (s.withDraws d).out = s.out := rfl
@[simp] theorem State.withDraws_fault (d : Draws) : (s.withDraws d).fault = s.fault := rfl
@[simp] theorem State.withDraws_hostStatus (d : Draws) : (s.withDraws d).hostStatus = s.hostStatus := rfl
@[simp] theorem State.withDraws_rxq (d : Draws) : (s.withDraws d).rxq = s.rxq := rfl
@[simp] theorem State.withDraws_txq (d : Draws) : (s.withDraws d).txq = s.txq := rfl
@[simp] theorem State.withDraws_hostInbox (d : Draws) : (s.withDraws d).hostInbox = s.hostInbox := rfl
@[simp] theorem State.withDraws_draws (d : Draws) : (s.withDraws d).draws = d := rfl
@[simp] theorem State.withDraws_tick (d : Draws) : (s.withDraws d).tick = s.tick := rfl
@[simp] theorem State.withDraws_script (d : Draws) : (s.withDraws d).script = s.script := rfl

/-! `State.taken` -/

@[simp] theorem State.taken_cfg : (s.taken).cfg = s.cfg := rfl
@[simp] theorem State.taken_st : (s.taken).st = s.st := rfl
@[simp] theorem State.taken_acc : (s.taken).acc = s.acc := rfl
@[simp] theorem State.taken_n : (s.taken).n = s.n := rfl
@[simp] theorem State.taken_dly : (s.taken).dly = s.dly := rfl
@[simp] theorem State.taken_prev : (s.taken).prev = s.prev := rfl
@[simp] theorem State.taken_smp : (s.taken).smp = s.smp := rfl
@[simp] theorem State.taken_idx : (s.taken).idx = s.idx := rfl
@[simp] theorem State.taken_batch : (s.taken).batch = s.batch := rfl
@[simp] theorem State.taken_recSrc : (s.taken).recSrc = s.recSrc := rfl
@[simp] theorem State.taken_recDst : (s.taken).recDst = s.recDst := rfl
@[simp] theorem State.taken_kick : (s.taken).kick = s.kick := rfl
@[simp] theorem State.taken_out : (s.taken).out = s.out := rfl
@[simp] theorem State.taken_fault : (s.taken).fault = s.fault := rfl
@[simp] theorem State.taken_hostStatus : (s.taken).hostStatus = s.hostStatus := rfl
@[simp] theorem State.taken_rxq : (s.taken).rxq = s.rxq := rfl
@[simp] theorem State.taken_txq : (s.taken).txq = s.txq := rfl
@[simp] theorem State.taken_hostInbox : (s.taken).hostInbox = s.hostInbox := rfl
@[simp] theorem State.taken_draws : (s.taken).draws = s.draws := rfl
@[simp] theorem State.taken_tick : (s.taken).tick = s.tick + 1 := rfl
@[simp] theorem State.taken_script : (s.taken).script = s.script.tail := rfl

/-! `State.load` -/

@[simp] theorem State.load_cfg (ms : List Move) : (s.load ms).cfg = s.cfg := rfl
@[simp] theorem State.load_st (ms : List Move) : (s.load ms).st = s.st := rfl
@[simp] theorem State.load_acc (ms : List Move) : (s.load ms).acc = s.acc := rfl
@[simp] theorem State.load_n (ms : List Move) : (s.load ms).n = s.n := rfl
@[simp] theorem State.load_dly (ms : List Move) : (s.load ms).dly = s.dly := rfl
@[simp] theorem State.load_prev (ms : List Move) : (s.load ms).prev = s.prev := rfl
@[simp] theorem State.load_smp (ms : List Move) : (s.load ms).smp = s.smp := rfl
@[simp] theorem State.load_idx (ms : List Move) : (s.load ms).idx = s.idx := rfl
@[simp] theorem State.load_batch (ms : List Move) : (s.load ms).batch = s.batch := rfl
@[simp] theorem State.load_recSrc (ms : List Move) : (s.load ms).recSrc = s.recSrc := rfl
@[simp] theorem State.load_recDst (ms : List Move) : (s.load ms).recDst = s.recDst := rfl
@[simp] theorem State.load_kick (ms : List Move) : (s.load ms).kick = s.kick := rfl
@[simp] theorem State.load_out (ms : List Move) : (s.load ms).out = s.out := rfl
@[simp] theorem State.load_fault (ms : List Move) : (s.load ms).fault = s.fault := rfl
@[simp] theorem State.load_hostStatus (ms : List Move) : (s.load ms).hostStatus = s.hostStatus := rfl
@[simp] theorem State.load_rxq (ms : List Move) : (s.load ms).rxq = s.rxq := rfl
@[simp] theorem State.load_txq (ms : List Move) : (s.load ms).txq = s.txq := rfl
@[simp] theorem State.load_hostInbox (ms : List Move) : (s.load ms).hostInbox = s.hostInbox := rfl
@[simp] theorem State.load_draws (ms : List Move) : (s.load ms).draws = s.draws := rfl
@[simp] theorem State.load_tick (ms : List Move) : (s.load ms).tick = s.tick := rfl
@[simp] theorem State.load_script (ms : List Move) : (s.load ms).script = ms ++ s.script := rfl

/-! `State.resetBlock` -/

@[simp] theorem State.resetBlock_cfg (d : ResetDraw) : (s.resetBlock d).cfg = s.cfg := rfl
@[simp] theorem State.resetBlock_st (d : ResetDraw) : (s.resetBlock d).st = Ctrl.hsWait := rfl
@[simp] theorem State.resetBlock_acc (d : ResetDraw) : (s.resetBlock d).acc = d.acc := rfl
@[simp] theorem State.resetBlock_n (d : ResetDraw) : (s.resetBlock d).n = d.n := rfl
@[simp] theorem State.resetBlock_dly (d : ResetDraw) : (s.resetBlock d).dly = d.dly := rfl
@[simp] theorem State.resetBlock_prev (d : ResetDraw) : (s.resetBlock d).prev = d.prev := rfl
@[simp] theorem State.resetBlock_smp (d : ResetDraw) : (s.resetBlock d).smp = d.smp := rfl
@[simp] theorem State.resetBlock_idx (d : ResetDraw) : (s.resetBlock d).idx = 0#4 := rfl
@[simp] theorem State.resetBlock_batch (d : ResetDraw) : (s.resetBlock d).batch = d.batch := rfl
@[simp] theorem State.resetBlock_recSrc (d : ResetDraw) : (s.resetBlock d).recSrc = d.recSrc := rfl
@[simp] theorem State.resetBlock_recDst (d : ResetDraw) : (s.resetBlock d).recDst = d.recDst := rfl
@[simp] theorem State.resetBlock_kick (d : ResetDraw) : (s.resetBlock d).kick = d.kick := rfl
@[simp] theorem State.resetBlock_out (d : ResetDraw) : (s.resetBlock d).out = s.cfg.val.outInit := rfl
@[simp] theorem State.resetBlock_fault (d : ResetDraw) : (s.resetBlock d).fault = s.fault := rfl
@[simp] theorem State.resetBlock_hostStatus (d : ResetDraw) : (s.resetBlock d).hostStatus = s.hostStatus := rfl
@[simp] theorem State.resetBlock_rxq (d : ResetDraw) : (s.resetBlock d).rxq = s.rxq := rfl
@[simp] theorem State.resetBlock_txq (d : ResetDraw) : (s.resetBlock d).txq = s.txq := rfl
@[simp] theorem State.resetBlock_hostInbox (d : ResetDraw) : (s.resetBlock d).hostInbox = s.hostInbox := rfl
@[simp] theorem State.resetBlock_draws (d : ResetDraw) : (s.resetBlock d).draws = s.draws := rfl
@[simp] theorem State.resetBlock_tick (d : ResetDraw) : (s.resetBlock d).tick = s.tick := rfl
@[simp] theorem State.resetBlock_script (d : ResetDraw) : (s.resetBlock d).script = s.script := rfl

end Sys2Proof.Machine
end

