-- ==== Sys2Proof/Laws/Ops.lean ====
section
/-!
SUPPORT. One lemma for each shared operation, saying once what it does, so that proofs cite it and do not unfold it.
-/

namespace Sys2Proof.Machine

/-! ## Control transfer -/

@[simp] theorem State.moveTo_ok (s : State) (c : Ctrl) (w : State → State) : s.moveTo (.ok c) w = (w s).goto c := rfl

@[simp] theorem State.moveTo_error (s : State) (r : Fault) (w : State → State) : s.moveTo (.error r) w = s.raise r := rfl

/-- `after_lo()` by the bit counter: 24 ends the word, fewer go on, more raise the fault (rule R161). -/
theorem afterLo_cases (n : BitVec 5) :
    (n.toNat = 24 ∧ afterLo n = .ok Ctrl.signExt) ∨ (n.toNat < 24 ∧ afterLo n = .ok Ctrl.clkRise) ∨
      (24 < n.toNat ∧ afterLo n = .error (.badCounter n)) := by
  unfold afterLo nbits
  split
  · exact .inl ⟨‹_›, rfl⟩
  · split
    · exact .inr (.inl ⟨‹_›, rfl⟩)
    · exact .inr (.inr ⟨by omega, rfl⟩)

/-! ## Words -/

theorem Word.bit_mask {b i : Nat} (hi : i < 32) : (Word.mask b).bit i = decide (i = b) := by
  simp only [Word.bit, Word.mask, BitVec.getLsbD_shiftLeft, BitVec.getLsbD_one]
  by_cases h : i < b
  · simp [hi, h]; omega
  · simp [hi, h]; omega

/-- The two output operations bit by bit (rule R113). -/
theorem State.setOut_bit (s : State) {b i : Nat} (hi : i < 32) :
    (s.setOut (Word.mask b)).out.bit i = (s.out.bit i || decide (i = b)) := by
  simp only [State.setOut_out, Word.bit, BitVec.getLsbD_or]
  rw [show (Word.mask b).getLsbD i = _ from Word.bit_mask hi]

theorem State.clrOut_bit (s : State) {b i : Nat} (hi : i < 32) :
    (s.clrOut (Word.mask b)).out.bit i = (s.out.bit i && !decide (i = b)) := by
  simp only [State.clrOut_out, Word.bit, BitVec.getLsbD_and, BitVec.getLsbD_not, hi, decide_true, Bool.true_and]
  rw [show (Word.mask b).getLsbD i = _ from Word.bit_mask hi]

/-! ## The admitted configuration (rule R8) -/

theorem Config.bits (c : Config) :
    c.val.kickBit ≤ 31 ∧ c.val.ctrlBit ≤ 31 ∧ c.val.dataBit ≤ 31 ∧ c.val.startBit ≤ 31 ∧ c.val.clkBit ≤ 31 ∧
      c.val.stbBit ≤ 31 ∧ c.val.readyBit ≤ 7 := by
  have h := c.property
  simp [RawConfig.admitted, ConfigCheck.all, RawConfig.passes] at h
  omega

theorem Config.kick_distinct (c : Config) :
    c.val.ctrlBit ≠ c.val.kickBit ∧ c.val.dataBit ≠ c.val.kickBit ∧ c.val.startBit ≠ c.val.kickBit := by
  have h := c.property
  simp [RawConfig.admitted, ConfigCheck.all, RawConfig.passes] at h
  omega

theorem Config.out_distinct (c : Config) : c.val.clkBit ≠ c.val.stbBit := by
  have h := c.property
  simp [RawConfig.admitted, ConfigCheck.all, RawConfig.passes] at h
  omega

theorem Config.hold_order (c : Config) : c.val.tLo.toNat < c.val.tHi.toNat := by
  have h := c.property
  simp [RawConfig.admitted, ConfigCheck.all, RawConfig.passes] at h
  omega

theorem Config.caps (c : Config) : 1 ≤ c.val.txqCap ∧ 1 ≤ c.val.rxqCap := by
  have h := c.property
  simp [RawConfig.admitted, ConfigCheck.all, RawConfig.passes] at h
  omega

/-! ## Payload bytes -/

@[simp] theorem wordBytes_length (w : Word) : (wordBytes w).length = 4 := rfl

/-! ## Pin words -/

theorem setPin_bit (p : Word) {b i : Nat} (v : Bool) (hi : i < 32) :
    (setPin p b v).bit i = if i = b then v else p.bit i := by
  have hm : (Word.mask b).getLsbD i = decide (i = b) := Word.bit_mask hi
  cases v
  · simp only [setPin, Word.bit, Bool.false_eq_true, if_false, BitVec.getLsbD_and, BitVec.getLsbD_not, hi, decide_true,
      Bool.true_and, hm]
    by_cases h : i = b <;> simp [h]
  · simp only [setPin, Word.bit, if_true, BitVec.getLsbD_or, hm]
    by_cases h : i = b <;> simp [h]

/-! ## Runs -/

@[simp] theorem runFor_zero (s : State) : runFor 0 s = .next s := rfl

/-- A step whose script names the next move performs that move. -/
theorem step_of_script (s : State) (m : Move) (ms : List Move) (h : s.script = m :: ms) :
    step s = runMove m { s with script := ms, tick := s.tick + 1 } := by
  simp [step, State.nextMove, State.taken, h]

end Sys2Proof.Machine
end

