-- ==== Sys2Proof/Laws/PerInstr.lean ====
section
/-!
SUPPORT. Statements made once per operation. `EncodesInFormat`: an operation's code lies in the range of its format's table,
20 codes for STATE5 (rule R80) and an existing code and argument form for HOSTEV3 (rule R88).
-/

namespace Sys2Proof.Laws.EncodesInFormat

/-- A code is one of the codes of its format. -/
def inFormat : Code → Bool
  | .state5 c => decide (c.toNat < 20)
  | .hostEv3 c args => hostEventExists c args

/-- The code of `i` is one of the codes of its format. -/
def Statement (i : Instr) : Prop := inFormat (encode i) = true

theorem hsWait : Statement .hsWait := rfl
theorem hsAnn0 : Statement .hsAnn0 := rfl
theorem hsAnn1 : Statement .hsAnn1 := rfl
theorem kickPoll : Statement .kickPoll := rfl
theorem kickClr : Statement .kickClr := rfl
theorem drain : Statement .drain := rfl
theorem edgePoll : Statement .edgePoll := rfl
theorem clkIdleLow : Statement .clkIdleLow := rfl
theorem startTest : Statement .startTest := rfl
theorem clkRise : Statement .clkRise := rfl
theorem holdHi : Statement .holdHi := rfl
theorem shiftIn : Statement .shiftIn := rfl
theorem clkFall : Statement .clkFall := rfl
theorem holdLo : Statement .holdLo := rfl
theorem signExt : Statement .signExt := rfl
theorem emit : Statement .emit := rfl
theorem send : Statement .send := rfl
theorem stbRise : Statement .stbRise := rfl
theorem holdStb : Statement .holdStb := rfl
theorem stbFall : Statement .stbFall := rfl
theorem hStatus (v : Byte) : Statement (.hStatus v) := rfl
theorem hKick : Statement .hKick := rfl
theorem hPush (src dst : Word) (payload : List Byte) : Statement (.hPush src dst payload) := rfl
theorem hPop : Statement .hPop := rfl
theorem hReset : Statement .hReset := rfl

end Sys2Proof.Laws.EncodesInFormat
end

