-- ==== Sys2Proof/Tests/Slice0.lean ====
section
/-!
SUPPORT. Tests of the model. Expected results come from the vectors V<n> of `spec/95_test_vectors.md` or from the encodings of
`spec/30_encoding.md`; each test names its source. Configurations TST and FST are that file's section 0.
-/

namespace Sys2Proof.Tests

open Sys2Proof.Machine

/-! ## Configurations and helpers -/

/-- `TST` of section 0. -/
def tstRaw : RawConfig where
  kickBit := 31
  ctrlBit := 2
  dataBit := 2
  startBit := 3
  clkBit := 1
  stbBit := 5
  readyBit := 2
  tHi := 2#32
  tLo := 1#32
  tStb := 1#32
  txqCap := 4
  rxqCap := 4
  outInit := 0#32

/-- `FST` of section 0. -/
def fstRaw : RawConfig := { tstRaw with tHi := 1#32, tLo := 0#32, tStb := 0#32 }

def tst : Config := ⟨tstRaw, by decide⟩
def fst : Config := ⟨fstRaw, by decide⟩

/-- The launch state of section 3 under `TST`, with `prev` = 0 and `kick` = 0. -/
def base : State := State.launch tst false false 0#8

/-- A state with `st` at a control state. -/
def at_ (c : Ctrl) (s : State := base) : State := { s with st := c }

/-- One block step through `step`, with a pin word. -/
def after (s : State) (pins : Word := 0#32) (annOk : Bool := true) (txOk : Bool := true) :
    Host.Outcome State Fault Refusal :=
  step { s with script := [.block ⟨pins, annOk, txOk⟩] }

/-- What a function reads from the next state, if there is one. -/
def look {α : Type} (f : State → α) : Host.Outcome State Fault Refusal → Option α
  | .next t => some (f t)
  | _ => none

/-- The batch [1, 2, ..., 10] of V84. -/
def tenBatch : Vector Word 10 := #v[1#32, 2#32, 3#32, 4#32, 5#32, 6#32, 7#32, 8#32, 9#32, 10#32]

/-- The state before V84. -/
def full : State := { at_ Ctrl.send with idx := 10#4, batch := tenBatch, recSrc := 0x400#32, recDst := 0x1E#32 }

def msg (a b : Nat) (p : List Byte) : Message := ⟨BitVec.ofNat 32 a, BitVec.ofNat 32 b, p⟩

/-! ## Well-formedness: each check refuses an ill-formed term -/

theorem test_wf_range : ({ tstRaw with startBit := 32 } : RawConfig).failedCheck = some .bitsInRange := by decide
/-- V104. -/
theorem test_wf_kick : ({ tstRaw with startBit := 31 } : RawConfig).failedCheck = some .kickDistinct := by decide
/-- V105. -/
theorem test_wf_out : ({ tstRaw with stbBit := 1 } : RawConfig).failedCheck = some .outDistinct := by decide
/-- V103. -/
theorem test_wf_hold : ({ tstRaw with tHi := 1000#32, tLo := 1000#32 } : RawConfig).failedCheck = some .holdOrder := by
  decide
theorem test_wf_caps : ({ tstRaw with txqCap := 0 } : RawConfig).failedCheck = some .caps := by decide
/-- V102, rule R88: codes 5 to 7 are no host action. -/
theorem test_wf_host_code : Move.wellFormed (.host 5#3 .none) = false := by decide
/-- Rule R88: H_KICK has no arguments. -/
theorem test_wf_host_args : Move.wellFormed (.host 1#3 (.status 0#8)) = false := by decide
theorem test_launch_refuses :
    launch { tstRaw with stbBit := 1 } false false 0#8 = .refused (.configRefused .outDistinct) := by rfl

/-! ## Decoding: the codes of tables R80 and R88, written out in bits -/

theorem test_decode_hsWait : decode (.state5 0b00000#5) = .ok .hsWait := by rfl
theorem test_decode_hsAnn0 : decode (.state5 0b00001#5) = .ok .hsAnn0 := by rfl
theorem test_decode_hsAnn1 : decode (.state5 0b00010#5) = .ok .hsAnn1 := by rfl
theorem test_decode_kickPoll : decode (.state5 0b00011#5) = .ok .kickPoll := by rfl
theorem test_decode_kickClr : decode (.state5 0b00100#5) = .ok .kickClr := by rfl
theorem test_decode_drain : decode (.state5 0b00101#5) = .ok .drain := by rfl
theorem test_decode_edgePoll : decode (.state5 0b00110#5) = .ok .edgePoll := by rfl
theorem test_decode_clkIdleLow : decode (.state5 0b00111#5) = .ok .clkIdleLow := by rfl
theorem test_decode_startTest : decode (.state5 0b01000#5) = .ok .startTest := by rfl
theorem test_decode_clkRise : decode (.state5 0b01001#5) = .ok .clkRise := by rfl
theorem test_decode_holdHi : decode (.state5 0b01010#5) = .ok .holdHi := by rfl
theorem test_decode_shiftIn : decode (.state5 0b01011#5) = .ok .shiftIn := by rfl
theorem test_decode_clkFall : decode (.state5 0b01100#5) = .ok .clkFall := by rfl
theorem test_decode_holdLo : decode (.state5 0b01101#5) = .ok .holdLo := by rfl
theorem test_decode_signExt : decode (.state5 0b01110#5) = .ok .signExt := by rfl
theorem test_decode_emit : decode (.state5 0b01111#5) = .ok .emit := by rfl
theorem test_decode_send : decode (.state5 0b10000#5) = .ok .send := by rfl
theorem test_decode_stbRise : decode (.state5 0b10001#5) = .ok .stbRise := by rfl
theorem test_decode_holdStb : decode (.state5 0b10010#5) = .ok .holdStb := by rfl
theorem test_decode_stbFall : decode (.state5 0b10011#5) = .ok .stbFall := by rfl
theorem test_decode_reserved : decode (.state5 0b10100#5) = .error (.reservedState 0x14#5) := by rfl
theorem test_decode_hStatus : decode (.hostEv3 0b000#3 (.status 4#8)) = .ok (.hStatus 4#8) := by rfl
theorem test_decode_hKick : decode (.hostEv3 0b001#3 .none) = .ok .hKick := by rfl
theorem test_decode_hPush : decode (.hostEv3 0b010#3 (.message 1#32 2#32 [3#8])) = .ok (.hPush 1#32 2#32 [3#8]) := by rfl
theorem test_decode_hPop : decode (.hostEv3 0b011#3 .none) = .ok .hPop := by rfl
theorem test_decode_hReset : decode (.hostEv3 0b100#3 .none) = .ok .hReset := by rfl
theorem test_decode_host_reserved : decode (.hostEv3 0b101#3 .none) = .error (.reservedHostCode 5#3) := by rfl

/-- Rows of the opcode table: a five-bit row and a three-bit row with the same number are two operations. -/
theorem test_table_state5 : decodeTableWord 5 0x10 = some .send := by rfl
theorem test_table_state5_bytes : decodeTableWord 8 0x10 = some .send := by rfl
theorem test_table_host : decodeTableWord 3 4 = some .hReset := by rfl
theorem test_table_reserved : decodeTableWord 8 0x14 = none := by rfl

/-! ## A placed operation is what the next step performs -/

theorem test_place_emit : step (State.reset.withFetchWord 5 0x0F) =
    exec .emit { State.reset with st := Ctrl.emit, tick := 1 } := by rfl
theorem test_place_push : step (State.reset.withFetchWord 3 2) =
    exec (.hPush 0#32 0#32 []) { State.reset with tick := 1 } := by rfl

/-! ## The input snapshot and the output latch -/

/-- V1. -/
theorem test_compose_masks_pin : compose 31 0x80000004#32 false = 0x00000004#32 := by decide
/-- V2. -/
theorem test_compose_kick : compose 31 0#32 true = 0x80000000#32 := by decide
/-- V4. -/
theorem test_clrOut : ({ base with out := 0xFFFFFF02#32 }.clrOut base.clkMask).out = 0xFFFFFF00#32 := by decide
/-- V5. -/
theorem test_setOut : ({ base with out := 0xFFFFFF00#32 }.setOut base.stbMask).out = 0xFFFFFF20#32 := by decide

/-! ## Block steps -/

/-- V13. -/
theorem test_hsWait_ready : look (·.st) (after { base with hostStatus := 0xFF#8 }) = some Ctrl.hsAnn0 := by decide
/-- V12. -/
theorem test_hsWait_waits : look (·.st) (after { base with hostStatus := 0xFB#8 }) = some Ctrl.hsWait := by decide
/-- V14. -/
theorem test_hsAnn0_retries : look (·.st) (after (at_ Ctrl.hsAnn0) (annOk := false)) = some Ctrl.hsAnn0 := by decide
/-- V15. -/
theorem test_hsAnn0_goes_on : look (·.st) (after (at_ Ctrl.hsAnn0)) = some Ctrl.hsAnn1 := by decide
/-- V16. -/
theorem test_hsAnn1_retries : look (·.st) (after (at_ Ctrl.hsAnn1) (annOk := false)) = some Ctrl.hsAnn1 := by decide
/-- V17. -/
theorem test_hsAnn1_goes_on : look (·.st) (after (at_ Ctrl.hsAnn1)) = some Ctrl.kickPoll := by decide
/-- V20. -/
theorem test_kickPoll_pin31 : look (·.st) (after (at_ Ctrl.kickPoll) 0xFFFFFFFF#32) = some Ctrl.kickPoll := by decide
/-- V21. -/
theorem test_kickPoll_kick :
    look (fun t => (t.st, t.kick)) (after { at_ Ctrl.kickPoll with kick := true }) = some (Ctrl.kickClr, true) := by decide
/-- V22. -/
theorem test_kickClr :
    look (fun t => (t.st, t.kick)) (after { at_ Ctrl.kickClr with kick := true }) = some (Ctrl.drain, false) := by decide
/-- V26. -/
theorem test_drain_empty : look (·.st) (after (at_ Ctrl.drain)) = some Ctrl.kickPoll := by decide
/-- V28. -/
theorem test_drain_takes_one :
    look (fun t => (t.st, t.rxq, t.recSrc, t.recDst))
      (after { at_ Ctrl.drain with rxq := [msg 7 9 [], msg 1 2 [0x78#8]] }) =
    some (Ctrl.edgePoll, [msg 1 2 [0x78#8]], 7#32, 9#32) := by decide
/-- V41. -/
theorem test_edgePoll_falling :
    look (fun t => (t.st, t.prev)) (after { at_ Ctrl.edgePoll with prev := true } 0#32) =
    some (Ctrl.clkIdleLow, false) := by decide
/-- V42. -/
theorem test_edgePoll_stays :
    look (fun t => (t.st, t.prev)) (after { at_ Ctrl.edgePoll with prev := true } 4#32) =
    some (Ctrl.edgePoll, true) := by decide
/-- V43. -/
theorem test_clkIdleLow :
    look (fun t => (t.st, t.out)) (after { at_ Ctrl.clkIdleLow with out := 2#32 }) = some (Ctrl.startTest, 0#32) := by
  decide
/-- V45. -/
theorem test_startTest_low :
    look (fun t => (t.st, t.acc, t.n)) (after { at_ Ctrl.startTest with acc := 0xDEADBEEF#32, n := 17#5 } 0xFFFFFFF7#32) =
    some (Ctrl.clkRise, 0#32, 0#5) := by decide
/-- V46. -/
theorem test_startTest_high :
    look (fun t => (t.st, t.acc)) (after { at_ Ctrl.startTest with acc := 0xDEADBEEF#32 } 8#32) =
    some (Ctrl.edgePoll, 0xDEADBEEF#32) := by decide
/-- V47. -/
theorem test_clkRise :
    look (fun t => (t.st, t.out, t.dly)) (after (at_ Ctrl.clkRise)) = some (Ctrl.holdHi, 2#32, 2#32) := by decide
/-- V48. -/
theorem test_holdHi_stays :
    look (fun t => (t.st, t.dly)) (after { at_ Ctrl.holdHi with dly := 2#32 }) = some (Ctrl.holdHi, 1#32) := by decide
/-- V49. -/
theorem test_holdHi_leaves :
    look (fun t => (t.st, t.dly)) (after { at_ Ctrl.holdHi with dly := 1#32 }) = some (Ctrl.shiftIn, 0#32) := by decide
/-- V52. -/
theorem test_shiftIn :
    look (fun t => (t.st, t.acc, t.n)) (after { at_ Ctrl.shiftIn with acc := 0x00400000#32, n := 23#5 } 4#32) =
    some (Ctrl.clkFall, 0x00800001#32, 24#5) := by decide
/-- V53. -/
theorem test_shiftIn_bit31 :
    look (·.acc) (after { at_ Ctrl.shiftIn with acc := 0x80000000#32 } 4#32) = some 1#32 := by decide
/-- V54. -/
theorem test_clkFall :
    look (fun t => (t.st, t.out, t.dly)) (after { at_ Ctrl.clkFall with out := 2#32, n := 1#5 }) =
    some (Ctrl.holdLo, 0#32, 1#32) := by decide
/-- V58. -/
theorem test_clkFall_no_hold :
    look (fun t => (t.st, t.dly)) (after { at_ Ctrl.clkFall with cfg := fst, n := 24#5 }) = some (Ctrl.signExt, 0#32) := by
  decide
/-- V55. -/
theorem test_holdLo_next_bit :
    look (·.st) (after { at_ Ctrl.holdLo with dly := 1#32, n := 5#5 }) = some Ctrl.clkRise := by decide
/-- V57: the fault is recorded, nothing else is written. -/
theorem test_holdLo_fault :
    look (fun t => (t.fault, t.st, t.dly)) (after { at_ Ctrl.holdLo with dly := 1#32, n := 25#5 }) =
    some (some (.badCounter 25#5), Ctrl.holdLo, 1#32) := by decide
/-- V60. -/
theorem test_signExt_negative :
    look (fun t => (t.st, t.smp)) (after { at_ Ctrl.signExt with acc := 0x00800001#32 }) =
    some (Ctrl.emit, 0xFF800001#32) := by decide
/-- V61. -/
theorem test_signExt_high_byte :
    look (·.smp) (after { at_ Ctrl.signExt with acc := 0xFF000000#32 }) = some 0#32 := by decide
/-- V82. -/
theorem test_emit_fills :
    look (fun t => (t.st, t.idx, t.batch[9])) (after { at_ Ctrl.emit with idx := 9#4, smp := 0x0A#32 }) =
    some (Ctrl.send, 10#4, 0x0A#32) := by decide
/-- V83. -/
theorem test_emit_fault :
    look (fun t => (t.fault, t.idx)) (after { at_ Ctrl.emit with idx := 10#4 }) =
    some (some (.badIndex 10#4), 10#4) := by decide
/-- V84, with the payload of `spec/20_memory.md` rule R64. -/
theorem test_send :
    look (fun t => (t.st, t.idx, t.txq)) (after full) =
    some (Ctrl.stbRise, 0#4, [msg 0x1E 0x400 [1, 0, 0, 0, 2, 0, 0, 0, 3, 0, 0, 0, 4, 0, 0, 0, 5, 0, 0, 0,
      6, 0, 0, 0, 7, 0, 0, 0, 8, 0, 0, 0, 9, 0, 0, 0, 10, 0, 0, 0]]) := by decide
/-- The byte order of section 2.5: 0xFF800001 puts 01 00 80 FF at offsets 0 to 3; its upper half is read as 0xFF80. -/
theorem test_payload_views :
    (payloadOf (tenBatch.set 0 0xFF800001#32)).take 4 = [0x01#8, 0x00#8, 0x80#8, 0xFF#8] ∧
      payloadHalf (payloadOf (tenBatch.set 0 0xFF800001#32)) 1 = some 0xFF80#16 := by decide
/-- V86: a full TXQ drops the batch. -/
theorem test_send_full_queue :
    look (fun t => (t.idx, t.txq.length)) (after { full with txq := List.replicate 4 (msg 0 0 []) }) =
    some (0#4, 4) := by decide
/-- V65. -/
theorem test_stbRise :
    look (fun t => (t.st, t.out, t.dly)) (after (at_ Ctrl.stbRise)) = some (Ctrl.holdStb, 0x20#32, 1#32) := by decide
/-- V66. -/
theorem test_stbRise_no_hold :
    look (fun t => (t.st, t.out)) (after { at_ Ctrl.stbRise with cfg := fst }) = some (Ctrl.stbFall, 0x20#32) := by decide
/-- V67. -/
theorem test_holdStb : look (·.st) (after { at_ Ctrl.holdStb with dly := 1#32 }) = some Ctrl.stbFall := by decide
/-- V68. -/
theorem test_stbFall :
    look (fun t => (t.st, t.out, t.prev)) (after { at_ Ctrl.stbFall with out := 0x20#32, prev := true }) =
    some (Ctrl.edgePoll, 0#32, true) := by decide
/-- V101. -/
theorem test_reserved_state :
    look (fun t => (t.fault, t.st)) (after (at_ 0x1F#5)) = some (some (.illegalState 0x1F#5), 0x1F#5) := by decide
/-- V7. -/
theorem test_stopped : after { base with fault := some (.badIndex 10#4) } = .fault (.badIndex 10#4) := by rfl

/-! ## Host actions -/

/-- V90. -/
theorem test_hStatus : look (·.hostStatus) (exec (.hStatus 4#8) base) = some 4#8 := by decide
/-- V91. -/
theorem test_hKick : look (·.kick) (exec .hKick base) = some true := by decide
/-- V92. -/
theorem test_hPush :
    look (fun t => t.rxq.drop 3) (exec (.hPush 1#32 2#32 [0x61#8]) { base with rxq := List.replicate 3 (msg 0 0 []) }) =
    some [msg 1 2 [0x61#8]] := by decide
/-- V93. -/
theorem test_hPush_full :
    look (·.rxq.length) (exec (.hPush 1#32 2#32 [0x61#8]) { base with rxq := List.replicate 4 (msg 0 0 []) }) =
    some 4 := by decide
/-- V94. -/
theorem test_hPop :
    look (fun t => (t.txq, t.hostInbox)) (exec .hPop { base with txq := [msg 1 1 [], msg 2 2 []] }) =
    some ([msg 2 2 []], [msg 1 1 []]) := by decide
/-- V95. -/
theorem test_hPop_empty : look (·.txq) (exec .hPop base) = some [] := by decide
/-- V96. -/
theorem test_hReset :
    look (fun t => (t.st, t.idx, t.out, t.rxq, t.txq))
      (exec .hReset { at_ Ctrl.holdHi with
        idx := 7#4, out := 2#32, rxq := [msg 1 2 []], txq := [msg 3 4 []], hostStatus := 4#8 }) =
    some (Ctrl.hsWait, 0#4, 0#32, [msg 1 2 []], [msg 3 4 []]) := by decide
/-- V97. -/
theorem test_hReset_keeps_fault :
    look (fun t => (t.st, t.fault)) (exec .hReset { at_ 0x14#5 with fault := some (.illegalState 0x14#5) }) =
    some (Ctrl.hsWait, some (.illegalState 0x14#5)) := by decide

/-! ## Scripts -/

/-- A line of program P4 (rule R90). -/
theorem test_script_step :
    readLine "step pins=FFFFFFF3          # CTRL 1 to 0".toList = some (.steps 1 (some 0xFFFFFFF3#32) true true) := by
  decide
/-- A line of program P1 (rule R90). -/
theorem test_script_push :
    readLine "host H_PUSH 00000400 0000001E 676F".toList =
      some (.host 2#3 (.message 0x400#32 0x1E#32 [0x67#8, 0x6F#8])) := by decide
/-- V102: the script is refused, naming the line. -/
theorem test_script_refused :
    runScript "step\nhost H_FOO" { base with hostStatus := 4#8 } = .refused (.scriptRefused 2 "host H_FOO") := by rfl
/-- The first lines of program P1 and its first checkpoint (rules R130 to R132), with its trace (rule R91). -/
theorem test_script_bring_up : look (·.st) (runScript "host H_STATUS 04\nstep 3" base) = some Ctrl.kickPoll := by decide
theorem test_trace_bring_up :
    trace 4 (base.load (.host 0#3 (.status 4#8) :: List.replicate 3 (stepMove 0#32))) =
    ["HS_WAIT", "HS_ANN0", "HS_ANN1"] := by decide
/-- `acquire v nostart` takes three steps (V73) and stores no sample (program P3). -/
theorem test_acquire_nostart :
    look (fun t => (t.st, t.prev, t.idx)) (runLines [.acquire 0#24 .nostart] (at_ Ctrl.edgePoll)) =
    some (Ctrl.edgePoll, true, 0#4) := by decide
/-- V70: one acquisition under TST takes 152 steps. -/
theorem test_acquire_length : ((at_ Ctrl.edgePoll).acquireMoves 0x800001#24 .full).length = 152 := by rfl

/-! ## Witnesses: for each statement with hypotheses, a concrete instance that meets all of them together

`witness_<Name>` is for `Obligations.<Name>`; where a statement has several clauses the witness has one instance for each. -/

/-- A block step with the pins low, the announcement accepted and the message taken. -/
def lowDraws : Draws := ⟨0#32, true, true⟩

/-- A state with one block step left in its script. -/
def stepping (s : State) : State := { s with script := [.block lowDraws] }

theorem witness_DecodedCodeIsItsEncoding :
    decode (.state5 0x13#5) = .ok .stbFall ∧ decode (.hostEv3 4#3 .none) = .ok .hReset := by exact ⟨rfl, rfl⟩

theorem witness_ReservedCodesNameNoOperation :
    0x14 ≤ (0x14#5).toNat ∧ 0x14 ≤ (0x1F#5).toNat ∧ 5 ≤ (5#3).toNat ∧ 5 ≤ (7#3).toNat := by decide

theorem witness_StepRunsTheDecodedOperation :
    ((stepping full).script = [.block lowDraws] ∧ (stepping full).fault = none ∧
      decode (.state5 (stepping full).st) = .ok .send) ∧
    (decode (.hostEv3 1#3 .none) = .ok .hKick ∧ ({ base with script := [.host 1#3 .none] } : State).script =
      [.host 1#3 .none]) ∧ base.script = [] := by
  refine ⟨⟨rfl, rfl, rfl⟩, ⟨rfl, rfl⟩, rfl⟩

theorem witness_ReservedStateRaisesIllegalState :
    (0x14 ≤ (at_ 0x14#5).st.toNat ∧ (at_ 0x14#5).fault = none) ∧ (0x14 ≤ (at_ 0x1F#5).st.toNat ∧ (at_ 0x1F#5).fault = none) ∧
    ∃ t, exec .stbFall (at_ Ctrl.stbFall) = .next t := by
  refine ⟨by decide, by decide, _, rfl⟩

theorem witness_StoppedBlockHasNoStep :
    ({ base with fault := some (.badIndex 10#4) } : State).fault = some (.badIndex 10#4) ∧
      hostEventExists 4#3 .none = true := by decide

theorem witness_UnfaultedBlockAlwaysHasAStep : (at_ 0x13#5).fault = none ∧ (at_ 0x14#5).fault = none := by decide

theorem witness_BringUpIsNotEnteredAgain :
    ∃ t, 0x03 ≤ (stepping (at_ Ctrl.kickPoll)).st.toNat ∧ step (stepping (at_ Ctrl.kickPoll)) = .next t :=
  ⟨_, by decide, rfl⟩

theorem witness_DrainTakesTheHeadMessage :
    ({ base with rxq := [msg 7 9 [], msg 1 2 []] } : State).rxq = msg 7 9 [] :: [msg 1 2 []] ∧ base.rxq = [] := by decide

theorem witness_KickSetAndClearInEitherOrder :
    (∃ t, exec .hKick base = .next t) ∧ (∃ t u, exec .kickClr base = .next t ∧ exec .hKick t = .next u) ∧
    (∃ t u, exec .hKick base = .next t ∧ exec .kickClr t = .next u) :=
  ⟨⟨_, rfl⟩, ⟨_, _, rfl, rfl⟩, ⟨_, _, rfl, rfl⟩⟩

/-- Moves without a kick and without a reset. -/
def quietMoves : List Move := [.host 2#3 (.message 1#32 2#32 []), .block lowDraws, .host 3#3 .none, .host 0#3 (.status 4#8)]

theorem witness_MessageWithoutKickStaysQueued :
    (at_ Ctrl.kickPoll).st = Ctrl.kickPoll ∧ (at_ Ctrl.kickPoll).kick = false ∧ (at_ Ctrl.kickPoll).fault = none ∧
      ∀ m ∈ quietMoves, m.wellFormed = true ∧ m ≠ .host 1#3 .none ∧ m ≠ .host 4#3 .none := by decide

/-- A kick and a block step in turn. -/
def turns (j : Nat) : Move := if j % 2 = 0 then .host 1#3 .none else .block lowDraws

theorem witness_PendingKickIsSeenUnderFairness :
    ({ at_ Ctrl.kickPoll with kick := true } : State).st = Ctrl.kickPoll ∧
    ({ at_ Ctrl.kickPoll with kick := true } : State).kick = true ∧
    ({ at_ Ctrl.kickPoll with kick := true } : State).fault = none ∧ Fair turns ∧
    ∀ j, (turns j).wellFormed = true ∧ turns j ≠ .host 4#3 .none := by
  refine ⟨rfl, rfl, rfl, fun k => ⟨2 * k + 1, by omega, lowDraws, ?_⟩, fun j => ?_⟩
  · rw [turns, if_neg (by omega)]
  · rw [turns]
    split <;> decide

theorem witness_HoldLastsExactlyItsCount :
    (({ at_ Ctrl.holdHi with dly := 2#32 } : State).fault = none ∧ (2#32 : Word) ≠ 0#32 ∧
      [lowDraws, lowDraws].length = (2#32 : Word).toNat) ∧
    ({ at_ Ctrl.holdStb with dly := 1#32 } : State).st = Ctrl.holdStb ∧
    (({ at_ Ctrl.holdLo with n := 24#5, dly := 1#32 } : State).st = Ctrl.holdLo ∧ afterLo 24#5 = .ok Ctrl.signExt ∧
      afterLo 23#5 = .ok Ctrl.clkRise) := by
  refine ⟨by decide, by decide, rfl, rfl, rfl⟩

theorem witness_ShiftPairIsSignExtension :
    (((0x00800000#32 : Word).setWidth 24).toNat : Int) = (-2 ^ 23) % 2 ^ 24 ∧
    (((0x127FFFFF#32 : Word).setWidth 24).toNat : Int) = (2 ^ 23 - 1) % 2 ^ 24 := by decide

theorem witness_SamplingIsNeverLeft :
    (∃ t, (stepping (at_ Ctrl.edgePoll)).sampling ∧ step (stepping (at_ Ctrl.edgePoll)) = .next t) ∧
    ∃ t, (stepping (at_ Ctrl.stbFall)).sampling ∧ step (stepping (at_ Ctrl.stbFall)) = .next t :=
  ⟨⟨_, by decide, rfl⟩, ⟨_, by decide, rfl⟩⟩

theorem witness_EmitStoresTheSample :
    ({ base with idx := 9#4 } : State).idx.toNat < 10 ∧ 10 ≤ ({ base with idx := 10#4 } : State).idx.toNat := by decide

theorem witness_SendEnqueuesTheReplyOrDropsIt : full.idx = 10#4 ∧ ({ base with idx := 9#4 } : State).idx ≠ 10#4 := by decide

theorem witness_PayloadIsLittleEndian : 9 < 10 ∧ 3 < 4 ∧ 1 < 2 := by decide

theorem witness_HostPopTakesTheHead :
    ({ base with txq := [msg 1 2 [], msg 3 4 []] } : State).txq = msg 1 2 [] :: [msg 3 4 []] ∧ base.txq = [] := by decide

theorem witness_OnlyAdmittedConfigurationsLaunch :
    ({ tstRaw with tHi := 1000#32, tLo := 1000#32 } : RawConfig).failedCheck = some .holdOrder ∧
      tstRaw.failedCheck = none := by decide

theorem witness_SnapshotShowsKickAndPins : 31 < 32 ∧ 31 = base.cfg.val.kickBit ∧ 0 ≠ base.cfg.val.kickBit := by decide

theorem witness_OnlyClkAndStbAreWritten :
    ∃ t, step (stepping (at_ Ctrl.clkRise)) = .next t ∧ ¬(stepping (at_ Ctrl.clkRise)).resetIsNext ∧
      31 < 32 ∧ 31 ≠ base.cfg.val.clkBit ∧ 31 ≠ base.cfg.val.stbBit :=
  ⟨_, rfl, by decide, by decide, by decide, by decide⟩

theorem witness_DatapathRegistersHaveTheseWriters : ∃ t, exec .shiftIn (at_ Ctrl.shiftIn) = .next t := ⟨_, rfl⟩
theorem witness_BatchRegistersHaveTheseWriters : ∃ t, exec .emit (at_ Ctrl.emit) = .next t := ⟨_, rfl⟩
theorem witness_InterfaceHasTheseWriters : ∃ t, exec .hPop full = .next t := ⟨_, rfl⟩

theorem witness_DrawsReachOnlyTheirOperations :
    (0#32 = full.draws.pins ∨ (Instr.send ≠ .edgePoll ∧ Instr.send ≠ .startTest ∧ Instr.send ≠ .shiftIn)) ∧
    (false = full.draws.annOk ∨ (Instr.send ≠ .hsAnn0 ∧ Instr.send ≠ .hsAnn1)) ∧
    (true = full.draws.txOk ∨ Instr.send ≠ .send) := by decide

theorem witness_KickAndStatusReachOnlyTheirOperations :
    (Instr.emit ≠ .kickPoll ∧ Instr.emit ≠ .kickClr ∧ Instr.emit ≠ .hKick ∧ Instr.emit ≠ .hReset) ∧
    (Instr.emit ≠ .hsWait ∧ ∀ w, Instr.emit ≠ .hStatus w) := by
  exact ⟨by decide, by decide, fun _ => nofun⟩

/-- `TST` with the control line on a pin of its own. -/
def apart : Config := ⟨{ tstRaw with ctrlBit := 4 }, by decide⟩

theorem witness_ControlLineIsSeenOnlyAtEdgePoll :
    Instr.shiftIn ≠ .edgePoll ∧ apart.val.ctrlBit ≠ apart.val.dataBit ∧ apart.val.ctrlBit ≠ apart.val.startBit := by decide

/-- The end of the last bit of the tenth sample, clock still high. -/
def lastBit : State :=
  { at_ Ctrl.clkFall with n := 24#5, acc := 0x00FFFFFF#32, idx := 9#4, out := 2#32, script := [.block lowDraws] }

theorem witness_StepKeepsTheInvariant : lastBit.Inv ∧ ∃ t, step lastBit = .next t := by
  refine ⟨⟨rfl, by decide, by decide, by decide, by decide, by decide, by decide, by decide, by decide, by decide, by decide,
    by decide, fun m h => absurd (show m ∈ ([] : List Message) from h) List.not_mem_nil, by decide, by decide⟩, _, rfl⟩

theorem witness_NoRunFromLaunchFaults :
    launch tstRaw false false 0#8 = .next base ∧
      ∀ m ∈ [Move.block lowDraws, .host 4#3 .none, .host 0#3 (.status 4#8)], m.wellFormed = true := by
  exact ⟨rfl, by decide⟩

theorem witness_StepKeepsThePinLevels : lastBit.PinLevels ∧ ∃ t, step lastBit = .next t :=
  ⟨⟨by decide, by decide, by decide, by decide⟩, _, rfl⟩

theorem witness_MessagesReachTheHostInOrder : ∃ t, step (stepping full) = .next t := ⟨_, rfl⟩

theorem witness_SamplingDrainsNothing :
    ∃ t, (stepping full).sampling ∧ step (stepping full) = .next t ∧ ¬(stepping full).resetIsNext :=
  ⟨_, by decide, rfl, by decide⟩

theorem witness_ErrorConditionsAreHandledInPlace :
    base.hostStatus.getLsbD base.cfg.val.readyBit = false ∧
    ({ base with draws := ⟨0#32, false, true⟩ } : State).draws.annOk = false ∧
    (full.idx = 10#4 ∧ ({ full with txq := List.replicate 4 (msg 0 0 []) } : State).cfg.val.txqCap ≤
      ({ full with txq := List.replicate 4 (msg 0 0 []) } : State).txq.length) ∧
    ({ full with draws := ⟨0#32, true, false⟩ } : State).draws.txOk = false ∧
    ({ base with rxq := [msg 7 9 [0xFF#8]] } : State).rxq = [msg 7 9 [0xFF#8]] ∧
    base.draws.pins.bit base.cfg.val.startBit = true := by decide

/-- EDGE_POLL with nine samples stored. -/
def nineStored : State := { at_ Ctrl.edgePoll with idx := 9#4 }

theorem witness_AcquisitionStoresTheSignExtendedValue :
    nineStored.idx.toNat < 10 ∧ nineStored.st = Ctrl.edgePoll ∧ nineStored.fault = none := by decide

theorem witness_AcquisitionTakesTheseCycles :
    nineStored.st = Ctrl.edgePoll ∧ nineStored.fault = none ∧ nineStored.idx.toNat < 10 ∧ 0 < 1 ∧
      1 < (nineStored.acquireMoves 0x800001#24 .full).length ∧ 0 < 152 ∧
      152 < (nineStored.acquireMoves 0x800001#24 .full).length := by
  have h : (nineStored.acquireMoves 0x800001#24 .full).length = 153 := by rfl
  rw [h]
  decide

/-- All pins low but for the first cycle's CTRL: the word of 24 zeros. -/
def zeroWord (i : Nat) : Draws := if i = 0 then ⟨4#32, true, true⟩ else lowDraws

theorem witness_ConverterDutiesGiveTheSample :
    nineStored.idx.toNat < 10 ∧ nineStored.st = Ctrl.edgePoll ∧ nineStored.fault = none ∧
      ConverterDuties nineStored.cfg.val nineStored.prev 0#24 zeroWord := by
  refine ⟨by decide, rfl, rfl, rfl, rfl, by decide⟩

theorem witness_TransitionWithStartHighStoresNothing :
    (at_ Ctrl.edgePoll).st = Ctrl.edgePoll ∧ (at_ Ctrl.edgePoll).fault = none := by decide

theorem witness_TenAcquisitionsSendOneBatch :
    (List.replicate 9 0x800001#24).length = 9 ∧ AcquireMode.full ≠ .nostart ∧ AcquireMode.txFail ≠ .nostart ∧
      (at_ Ctrl.edgePoll).st = Ctrl.edgePoll ∧ (at_ Ctrl.edgePoll).fault = none ∧ (at_ Ctrl.edgePoll).idx = 0#4 ∧
      (at_ Ctrl.edgePoll).txq.length < (at_ Ctrl.edgePoll).cfg.val.txqCap := by decide

end Sys2Proof.Tests
end

section
/-!
PROOFS. What a launch answers (`spec/00_scope.md` rule R8): the checks in terms of the configuration's fields, and the two
answers of `launch`.
-/

/-! ## The checks of rule R8 -/

namespace Sys2Proof

/-- No check is missing from the list of rule R8. -/
theorem ConfigCheck.mem_all (k : ConfigCheck) : k ∈ ConfigCheck.all := by
  cases k <;> decide

theorem RawConfig.admitted_iff_passes (c : RawConfig) : c.admitted = true ↔ ∀ k, c.passes k = true := by
  simp [RawConfig.admitted, ConfigCheck.mem_all]

theorem RawConfig.failedCheck_eq_none_iff (c : RawConfig) : c.failedCheck = none ↔ c.admitted = true := by
  simp [RawConfig.failedCheck, RawConfig.admitted]

/-- Rule R8 in full: to be admitted is to satisfy the five checks' conditions on the fields. -/
theorem RawConfig.admitted_iff (c : RawConfig) :
    c.admitted = true ↔
      c.kickBit ≤ 31 ∧ c.ctrlBit ≤ 31 ∧ c.dataBit ≤ 31 ∧ c.startBit ≤ 31 ∧ c.clkBit ≤ 31 ∧ c.stbBit ≤ 31 ∧ c.readyBit ≤ 7 ∧
      c.kickBit ≠ c.ctrlBit ∧ c.kickBit ≠ c.dataBit ∧ c.kickBit ≠ c.startBit ∧ c.clkBit ≠ c.stbBit ∧
      c.tLo.toNat < c.tHi.toNat ∧ 1 ≤ c.txqCap ∧ 1 ≤ c.rxqCap := by
  constructor
  · intro h
    obtain ⟨hKick, hCtrl, hData, hStart, hClk, hStb, hReady⟩ := Machine.Config.bits ⟨c, h⟩
    obtain ⟨hKickCtrl, hKickData, hKickStart⟩ := Machine.Config.kick_distinct ⟨c, h⟩
    exact ⟨hKick, hCtrl, hData, hStart, hClk, hStb, hReady, hKickCtrl.symm, hKickData.symm, hKickStart.symm,
      Machine.Config.out_distinct ⟨c, h⟩, Machine.Config.hold_order ⟨c, h⟩, Machine.Config.caps ⟨c, h⟩⟩
  · rintro ⟨hKick, hCtrl, hData, hStart, hClk, hStb, hReady, hKickCtrl, hKickData, hKickStart, hOut, hHold, hTxq, hRxq⟩
    refine c.admitted_iff_passes.mpr fun k => ?_
    cases k with
    | bitsInRange => simp [RawConfig.passes, hKick, hCtrl, hData, hStart, hClk, hStb, hReady]
    | kickDistinct => simp [RawConfig.passes, hKickCtrl, hKickData, hKickStart]
    | outDistinct => simp [RawConfig.passes, hOut]
    | holdOrder => simp [RawConfig.passes, hHold]
    | caps => simp [RawConfig.passes, hTxq, hRxq]

end Sys2Proof

/-! ## The two answers of a launch -/

namespace Sys2Proof.Machine

theorem launch_of_failedCheck {raw : RawConfig} {k : ConfigCheck} (h : raw.failedCheck = some k) (prev kick : Bool)
    (v : Byte) : launch raw prev kick v = .refused (.configRefused k) := by
  unfold launch
  split
  next _ hSome => rw [Option.some.inj (hSome.symm.trans h)]
  next hNone => cases hNone.symm.trans h

theorem launch_of_admitted {raw : RawConfig} (h : raw.admitted = true) (prev kick : Bool) (v : Byte) :
    launch raw prev kick v = .next (State.launch ⟨raw, h⟩ prev kick v) := by
  have hNone := raw.failedCheck_eq_none_iff.mpr h
  unfold launch
  split
  next _ hSome => cases hSome.symm.trans hNone
  next => rfl

/-- A launch answers a state exactly for an admitted configuration, and then it is that configuration's launch state. -/
theorem launch_eq_next_iff {raw : RawConfig} {prev kick : Bool} {v : Byte} {s : State} :
    launch raw prev kick v = .next s ↔ ∃ h : raw.admitted = true, s = State.launch ⟨raw, h⟩ prev kick v := by
  constructor
  · intro hNext
    cases hCheck : raw.failedCheck with
    | some k => simp [launch_of_failedCheck hCheck] at hNext
    | none =>
      have h := raw.failedCheck_eq_none_iff.mp hCheck
      rw [launch_of_admitted h] at hNext
      exact ⟨h, (Host.Outcome.next.inj hNext).symm⟩
  · rintro ⟨h, rfl⟩
    exact launch_of_admitted h prev kick v

theorem launch_next_iff_admitted (raw : RawConfig) (prev kick : Bool) (v : Byte) :
    (∃ s, launch raw prev kick v = .next s ∧ s.cfg.val = raw) ↔ raw.admitted = true := by
  constructor
  · rintro ⟨s, hNext, -⟩
    exact (launch_eq_next_iff.mp hNext).fst
  · intro h
    exact ⟨_, launch_of_admitted h prev kick v, rfl⟩

/-- Settles O39: a launch answers a state exactly for an admitted configuration, and to be admitted is to pass the five
checks of rule R8. -/
theorem onlyAdmittedConfigurationsLaunch : Obligations.OnlyAdmittedConfigurationsLaunch := by
  intro r prev kick v
  exact ⟨(launch_next_iff_admitted r prev kick v).trans r.admitted_iff,
    fun _ hCheck => launch_of_failedCheck hCheck prev kick v⟩

end Sys2Proof.Machine
end

section
/-!
PROOFS. What an operation and a step can do, said once: `Effect` lists the outcomes of every operation with their guards,
`exec_effect` says there are no others, and `step_cases` says which operation a step performs.
-/

namespace Sys2Proof

/-! ## A decoded operation is encoded by the code it was read from -/

theorem encode_of_decodeState5 {c : Ctrl} {i : Instr} (h : decodeState5 c = .ok i) : encode i = .state5 c := by
  unfold decodeState5 at h
  split at h <;> cases h <;> exact congrArg Code.state5 (BitVec.eq_of_toNat_eq (Eq.symm ‹c.toNat = _›))

theorem encode_of_decodeHostEv3 {c : BitVec 3} {args : HostArgs} {i : Instr} (h : decodeHostEv3 c args = .ok i) :
    encode i = .hostEv3 c args := by
  unfold decodeHostEv3 at h
  split at h
  case h_6 => split at h <;> cases h
  all_goals
    cases h
    exact congrArg (Code.hostEv3 · _) (BitVec.eq_of_toNat_eq (Eq.symm ‹c.toNat = _›))

/-- Only the codes above those of table R80 are reserved (rule R81). -/
theorem reserved_of_decodeState5 {c : Ctrl} {e : DecodeError} (h : decodeState5 c = .error e) : 0x14 ≤ c.toNat := by
  have hOk : ∀ c : Ctrl, c.toNat < 0x14 → (decodeState5 c).isOk = true := by decide
  by_contra hlt
  have := hOk c (by omega)
  simp [h, Except.isOk, Except.toBool] at this

end Sys2Proof

namespace Sys2Proof.Machine

/-! ## The phase-delay machine -/

/-- The choice between staying and leaving that loading and hold states share: the exit may raise a fault (rule R160). -/
theorem State.moveTo_ite_cases (s : State) (p : Prop) [Decidable p] (hold : Ctrl) (exit : Except Fault Ctrl)
    (w : State → State) :
    (¬p ∧ s.moveTo (if p then exit else .ok hold) w = (w s).goto hold) ∨
    (p ∧ ∃ c, exit = .ok c ∧ s.moveTo (if p then exit else .ok hold) w = (w s).goto c) ∨
    (p ∧ ∃ r, exit = .error r ∧ s.moveTo (if p then exit else .ok hold) w = s.raise r) := by
  by_cases hp : p
  · cases exit with
    | ok c => exact .inr (.inl ⟨hp, c, rfl, by rw [if_pos hp, moveTo_ok]⟩)
    | error r => exact .inr (.inr ⟨hp, r, rfl, by rw [if_pos hp, moveTo_error]⟩)
  · exact .inl ⟨hp, by rw [if_neg hp, moveTo_ok]⟩

/-- A loading state enters its hold state, or with a zero constant takes its exit. -/
theorem State.loadHold_cases (s : State) (v : Word) (hold : Ctrl) (exit : Except Fault Ctrl) (drive : State → State) :
    (v ≠ 0#32 ∧ s.loadHold v hold exit drive = ((drive s).setDly v).goto hold) ∨
    (v = 0#32 ∧ ∃ c, exit = .ok c ∧ s.loadHold v hold exit drive = ((drive s).setDly v).goto c) ∨
    (v = 0#32 ∧ ∃ r, exit = .error r ∧ s.loadHold v hold exit drive = s.raise r) :=
  s.moveTo_ite_cases (v = 0#32) hold exit fun s => (drive s).setDly v

/-- A hold state counts down and stays, or at the end takes its exit. -/
theorem State.holdStep_cases (s : State) (hold : Ctrl) (exit : Except Fault Ctrl) :
    (s.dly - 1#32 ≠ 0#32 ∧ s.holdStep hold exit = (s.setDly (s.dly - 1#32)).goto hold) ∨
    (s.dly - 1#32 = 0#32 ∧ ∃ c, exit = .ok c ∧ s.holdStep hold exit = (s.setDly (s.dly - 1#32)).goto c) ∨
    (s.dly - 1#32 = 0#32 ∧ ∃ r, exit = .error r ∧ s.holdStep hold exit = s.raise r) :=
  s.moveTo_ite_cases (s.dly - 1#32 = 0#32) hold exit fun s => s.setDly (s.dly - 1#32)

/-- `T_HI` is not zero, because `T_LO` is less (rule R8). -/
theorem Config.tHi_ne_zero (c : Config) : c.val.tHi ≠ 0#32 := by
  intro h
  have := Config.hold_order c
  simp [h] at this

/-! ## The outcomes of the operations -/

/-- `Effect s i t`: performed on `s`, the operation `i` may give `t`. One constructor for each outcome of each rule, with the
outcome's guard where the rule has more than one way to write. -/
inductive Effect (s : State) : Instr → State → Prop
  | hsWait : Effect s .hsWait (s.goto (if s.driverReady then Ctrl.hsAnn0 else Ctrl.hsWait))
  | hsAnn0 : Effect s .hsAnn0 (s.goto (if s.draws.annOk then Ctrl.hsAnn1 else Ctrl.hsAnn0))
  | hsAnn1 : Effect s .hsAnn1 (s.goto (if s.draws.annOk then Ctrl.kickPoll else Ctrl.hsAnn1))
  | kickPoll : Effect s .kickPoll (s.goto (if s.inKick then Ctrl.kickClr else Ctrl.kickPoll))
  | kickClr : Effect s .kickClr (State.goto { s with kick := false } Ctrl.drain)
  | drainHead {m : Message} {rest : List Message} (hq : s.rxq = m :: rest) :
      Effect s .drain ((State.recordEndpoints { s with rxq := rest } m).goto Ctrl.edgePoll)
  | drainEmpty (hq : s.rxq = []) : Effect s .drain (s.goto Ctrl.kickPoll)
  | edgePoll : Effect s .edgePoll (s.observeCtrl.goto (if s.edge then Ctrl.clkIdleLow else Ctrl.edgePoll))
  | clkIdleLow : Effect s .clkIdleLow ((s.clrOut s.clkMask).goto Ctrl.startTest)
  | startHigh (hin : s.inStart = true) : Effect s .startTest (s.goto Ctrl.edgePoll)
  | startLow (hin : s.inStart = false) : Effect s .startTest (State.goto { s with acc := 0#32, n := 0#5 } Ctrl.clkRise)
  | clkRise : Effect s .clkRise (((s.setOut s.clkMask).setDly s.cfg.val.tHi).goto Ctrl.holdHi)
  | holdHiStay (hd : s.dly - 1#32 ≠ 0#32) : Effect s .holdHi ((s.setDly (s.dly - 1#32)).goto Ctrl.holdHi)
  | holdHiLeave (hd : s.dly - 1#32 = 0#32) : Effect s .holdHi ((s.setDly (s.dly - 1#32)).goto Ctrl.shiftIn)
  | shiftIn : Effect s .shiftIn
      (State.goto { s with acc := s.acc.shl32 1 ||| Word.ofBit s.inData, n := s.n + 1#5 } Ctrl.clkFall)
  | clkFallHold (hd : s.cfg.val.tLo ≠ 0#32) :
      Effect s .clkFall (((s.clrOut s.clkMask).setDly s.cfg.val.tLo).goto Ctrl.holdLo)
  | clkFallLeave {c : Ctrl} (hd : s.cfg.val.tLo = 0#32) (hn : afterLo s.n = .ok c) :
      Effect s .clkFall (((s.clrOut s.clkMask).setDly s.cfg.val.tLo).goto c)
  | clkFallFault {r : Fault} (hd : s.cfg.val.tLo = 0#32) (hn : afterLo s.n = .error r) : Effect s .clkFall (s.raise r)
  | holdLoStay (hd : s.dly - 1#32 ≠ 0#32) : Effect s .holdLo ((s.setDly (s.dly - 1#32)).goto Ctrl.holdLo)
  | holdLoLeave {c : Ctrl} (hd : s.dly - 1#32 = 0#32) (hn : afterLo s.n = .ok c) :
      Effect s .holdLo ((s.setDly (s.dly - 1#32)).goto c)
  | holdLoFault {r : Fault} (hd : s.dly - 1#32 = 0#32) (hn : afterLo s.n = .error r) : Effect s .holdLo (s.raise r)
  | signExt : Effect s .signExt (State.goto { s with smp := (s.acc.shl32 sx).asr32 sx } Ctrl.emit)
  | emit (hidx : s.idx.toNat < batchN) : Effect s .emit
      (State.goto { s with batch := s.batch.set s.idx.toNat s.smp hidx, idx := s.idx + 1#4 }
        (if s.idx.toNat + 1 = batchN then Ctrl.send else Ctrl.stbRise))
  | emitFault (hidx : ¬s.idx.toNat < batchN) : Effect s .emit (s.raise (.badIndex s.idx))
  | send (hidx : s.idx.toNat = batchN) : Effect s .send
      (State.goto { s with idx := 0#4, txq := if s.txAccepts then enqueue s.txq s.reply else s.txq } Ctrl.stbRise)
  | sendFault (hidx : s.idx.toNat ≠ batchN) : Effect s .send (s.raise (.badIndex s.idx))
  | stbRiseHold (hd : s.cfg.val.tStb ≠ 0#32) :
      Effect s .stbRise (((s.setOut s.stbMask).setDly s.cfg.val.tStb).goto Ctrl.holdStb)
  | stbRiseLeave (hd : s.cfg.val.tStb = 0#32) :
      Effect s .stbRise (((s.setOut s.stbMask).setDly s.cfg.val.tStb).goto Ctrl.stbFall)
  | holdStbStay (hd : s.dly - 1#32 ≠ 0#32) : Effect s .holdStb ((s.setDly (s.dly - 1#32)).goto Ctrl.holdStb)
  | holdStbLeave (hd : s.dly - 1#32 = 0#32) : Effect s .holdStb ((s.setDly (s.dly - 1#32)).goto Ctrl.stbFall)
  | stbFall : Effect s .stbFall ((s.clrOut s.stbMask).goto Ctrl.edgePoll)
  | hStatus {v : Byte} : Effect s (.hStatus v) { s with hostStatus := v }
  | hKick : Effect s .hKick { s with kick := true }
  | hPushRoom {src dst : Word} {p : List Byte} (hq : s.rxq.length < s.cfg.val.rxqCap) :
      Effect s (.hPush src dst p) { s with rxq := enqueue s.rxq ⟨src, dst, p⟩ }
  | hPushFull {src dst : Word} {p : List Byte} (hq : ¬s.rxq.length < s.cfg.val.rxqCap) : Effect s (.hPush src dst p) s
  | hPopHead {m : Message} {rest : List Message} (hq : s.txq = m :: rest) :
      Effect s .hPop { s with txq := rest, hostInbox := enqueue s.hostInbox m }
  | hPopEmpty (hq : s.txq = []) : Effect s .hPop s
  | hReset : Effect s .hReset (s.resetBlock (Config.resetDraw s.tick))

/-- An operation has no outcome but those of `Effect`. -/
theorem exec_effect {i : Instr} {s t : State} (h : exec i s = .next t) : Effect s i t := by
  cases i <;> obtain rfl := Host.Outcome.next.inj h
  case hsWait => exact .hsWait
  case hsAnn0 => exact .hsAnn0
  case hsAnn1 => exact .hsAnn1
  case kickPoll => exact .kickPoll
  case kickClr => exact .kickClr
  case drain =>
    split
    next hq => exact .drainHead hq
    next hq => exact .drainEmpty hq
  case edgePoll => exact .edgePoll
  case clkIdleLow => exact .clkIdleLow
  case startTest =>
    split
    next hin => exact .startHigh hin
    next hin => exact .startLow (Bool.eq_false_iff.mpr hin)
  case clkRise =>
    rcases s.loadHold_cases s.cfg.val.tHi Ctrl.holdHi (.ok Ctrl.shiftIn) fun s => s.setOut s.clkMask with
      ⟨-, e⟩ | ⟨hd, -⟩ | ⟨hd, -⟩
    · rw [e]; exact .clkRise
    · exact absurd hd (Config.tHi_ne_zero s.cfg)
    · exact absurd hd (Config.tHi_ne_zero s.cfg)
  case holdHi =>
    rcases s.holdStep_cases Ctrl.holdHi (.ok Ctrl.shiftIn) with ⟨hd, e⟩ | ⟨hd, _, ⟨⟩, e⟩ | ⟨-, _, ⟨⟩, -⟩
    · rw [e]; exact .holdHiStay hd
    · rw [e]; exact .holdHiLeave hd
  case shiftIn => exact .shiftIn
  case clkFall =>
    rcases s.loadHold_cases s.cfg.val.tLo Ctrl.holdLo (afterLo s.n) fun s => s.clrOut s.clkMask with
      ⟨hd, e⟩ | ⟨hd, _, hn, e⟩ | ⟨hd, _, hn, e⟩
    · rw [e]; exact .clkFallHold hd
    · rw [e]; exact .clkFallLeave hd hn
    · rw [e]; exact .clkFallFault hd hn
  case holdLo =>
    rcases s.holdStep_cases Ctrl.holdLo (afterLo s.n) with ⟨hd, e⟩ | ⟨hd, _, hn, e⟩ | ⟨hd, _, hn, e⟩
    · rw [e]; exact .holdLoStay hd
    · rw [e]; exact .holdLoLeave hd hn
    · rw [e]; exact .holdLoFault hd hn
  case signExt => exact .signExt
  case emit =>
    split
    next hidx => exact .emit hidx
    next hidx => exact .emitFault hidx
  case send =>
    split
    next hidx => exact .send hidx
    next hidx => exact .sendFault hidx
  case stbRise =>
    rcases s.loadHold_cases s.cfg.val.tStb Ctrl.holdStb (.ok Ctrl.stbFall) fun s => s.setOut s.stbMask with
      ⟨hd, e⟩ | ⟨hd, _, ⟨⟩, e⟩ | ⟨-, _, ⟨⟩, -⟩
    · rw [e]; exact .stbRiseHold hd
    · rw [e]; exact .stbRiseLeave hd
  case holdStb =>
    rcases s.holdStep_cases Ctrl.holdStb (.ok Ctrl.stbFall) with ⟨hd, e⟩ | ⟨hd, _, ⟨⟩, e⟩ | ⟨-, _, ⟨⟩, -⟩
    · rw [e]; exact .holdStbStay hd
    · rw [e]; exact .holdStbLeave hd
  case stbFall => exact .stbFall
  case hStatus => exact .hStatus
  case hKick => exact .hKick
  case hPush =>
    split
    next hq => exact .hPushRoom hq
    next hq => exact .hPushFull hq
  case hPop =>
    split
    next hq => exact .hPopHead hq
    next hq => exact .hPopEmpty hq
  case hReset => exact .hReset

/-! ## The operation a step performs -/

/-- A step performs the operation that `st` names, raises `IllegalState` at a reserved code, or performs a host action
(rules R81, R110 and R111). -/
theorem step_cases {s t : State} (h : step s = .next t) :
    (∃ d i, s.nextMove = .block d ∧ s.fault = none ∧ encode i = .state5 s.st ∧ Effect (s.taken.withDraws d) i t) ∨
    (∃ d, s.nextMove = .block d ∧ s.fault = none ∧ 0x14 ≤ s.st.toNat ∧
      t = (s.taken.withDraws d).raise (.illegalState s.st)) ∨
    (∃ c args i, s.nextMove = .host c args ∧ encode i = .hostEv3 c args ∧ Effect s.taken i t) := by
  unfold step runMove at h
  split at h
  next d hm =>
    unfold blockStep at h
    split at h
    next => cases h
    next hf =>
      split at h
      next i hdec => exact .inl ⟨d, i, hm, hf, encode_of_decodeState5 hdec, exec_effect h⟩
      next hdec => exact .inr (.inl ⟨d, hm, hf, reserved_of_decodeState5 hdec, (Host.Outcome.next.inj h).symm⟩)
  next c args hm =>
    unfold hostMove at h
    split at h
    next i hdec => exact .inr (.inr ⟨c, args, i, hm, encode_of_decodeHostEv3 hdec, exec_effect h⟩)
    next => cases h
    next => cases h

end Sys2Proof.Machine
end

section
/-!
PROOFS. The writers of each register (`spec/10_state.md` rules R22 to R34), read off the list of effects.
-/

namespace Sys2Proof.Machine

/-- Settles O42: every effect of another operation leaves these registers as they are. -/
theorem datapathRegistersHaveTheseWriters : Obligations.DatapathRegistersHaveTheseWriters := by
  intro i s t h
  cases exec_effect h <;> simp

/-- Settles O43: every effect of another operation leaves the index, the batch and the endpoints as they are. -/
theorem batchRegistersHaveTheseWriters : Obligations.BatchRegistersHaveTheseWriters := by
  intro i s t h
  cases exec_effect h <;> simp

/-- Settles O44: every effect of another operation leaves the interface as it is, and a block operation is one with a STATE5
code. -/
theorem interfaceHasTheseWriters : Obligations.InterfaceHasTheseWriters := by
  intro i s t h
  cases exec_effect h <;> simp [encode]

end Sys2Proof.Machine
end

section
/-!
PROOFS. Every step keeps the invariant of the control and data path (`State.Inv`). The invariant is split into the part that
does not mention `st` (`State.DataInv`) and what a control state needs when it is entered (`State.Ready`).
-/

namespace Sys2Proof.Machine

/-! ## Arithmetic of the shift register and the sign extension -/

/-- Shifting one bit in below an `n`-bit value gives an `n + 1`-bit value. -/
theorem shl32_or_ofBit_lt {acc : Word} {n : Nat} (h : acc.toNat < 2 ^ n) (b : Bool) :
    (acc.shl32 1 ||| Word.ofBit b).toNat < 2 ^ (n + 1) := by
  rw [BitVec.toNat_or]
  refine Nat.or_lt_two_pow ?_ ?_
  · rw [BitVec.toNat_shiftLeft, Nat.shiftLeft_eq]
    omega
  · have hb : (Word.ofBit b).toNat < 2 := by cases b <;> decide
    have := Nat.one_le_two_pow (n := n)
    omega

/-- The shift pair of SIGN_EXT is the sign extension of the low 24 bits (rule R174). -/
theorem shl32_asr32_eq_sext24 (w : Word) : (w.shl32 sx).asr32 sx = w.sext24 := by
  ext i hi
  simp only [Word.shl32, Word.asr32, Word.sext24, BitVec.getElem_sshiftRight, BitVec.getElem_signExtend,
    BitVec.msb_eq_getLsbD_last, BitVec.getLsbD_shiftLeft, BitVec.getLsbD_setWidth, BitVec.getElem_shiftLeft,
    BitVec.getElem_setWidth, sx]
  by_cases h : i < 24
  · simp [h, show 8 + i < 32 by omega, BitVec.getLsbD_eq_getElem hi]
  · simp [h, show ¬8 + i < 32 by omega]

theorem isSample_sext24 (w : Word) : IsSample w.sext24 := by
  ext i hi
  by_cases h : i < 24 <;>
    simp [Word.sext24, h, ← BitVec.getLsbD_eq_getElem, BitVec.getLsbD_signExtend, BitVec.msb_eq_getLsbD_last]

/-! ## The two parts of the invariant -/

/-- The clauses of `State.Inv` that hold in every control state. -/
structure State.DataInv (s : State) : Prop where
  noFault : s.fault = none
  batch : ∀ (i : Nat) (h : i < 10), i < s.idx.toNat → IsSample s.batch[i]
  sent : ∀ m ∈ s.hostInbox ++ s.txq, IsBatchPayload m.payload
  txqFits : s.txq.length ≤ s.cfg.val.txqCap
  rxqFits : s.rxq.length ≤ s.cfg.val.rxqCap

/-- The control states of which the invariant says something of their own. -/
def Ctrl.busy : List Ctrl :=
  [Ctrl.clkRise, Ctrl.holdHi, Ctrl.shiftIn, Ctrl.clkFall, Ctrl.holdLo, Ctrl.signExt, Ctrl.emit, Ctrl.send, Ctrl.holdStb]

/-- `s.Ready c`: the index, the counters, `acc` and the sample register are as `State.Inv` says for control state `c`. -/
inductive State.Ready (s : State) : Ctrl → Prop
  | idle {c : Ctrl} (hlegal : c.toNat ≤ 0x13) (hbusy : c ∉ Ctrl.busy) (hidx : s.idx.toNat ≤ 9) : s.Ready c
  | clkRise (hidx : s.idx.toNat ≤ 9) (hn : s.n.toNat < 24) (hacc : s.acc.toNat < 2 ^ s.n.toNat) : s.Ready Ctrl.clkRise
  | holdHi (hidx : s.idx.toNat ≤ 9) (hn : s.n.toNat < 24) (hacc : s.acc.toNat < 2 ^ s.n.toNat)
      (hdly : 1 ≤ s.dly.toNat ∧ s.dly.toNat ≤ s.cfg.val.tHi.toNat) : s.Ready Ctrl.holdHi
  | shiftIn (hidx : s.idx.toNat ≤ 9) (hn : s.n.toNat < 24) (hacc : s.acc.toNat < 2 ^ s.n.toNat) : s.Ready Ctrl.shiftIn
  | clkFall (hidx : s.idx.toNat ≤ 9) (hn : 1 ≤ s.n.toNat ∧ s.n.toNat ≤ 24) (hacc : s.acc.toNat < 2 ^ s.n.toNat) :
      s.Ready Ctrl.clkFall
  | holdLo (hidx : s.idx.toNat ≤ 9) (hn : 1 ≤ s.n.toNat ∧ s.n.toNat ≤ 24) (hacc : s.acc.toNat < 2 ^ s.n.toNat)
      (hdly : 1 ≤ s.dly.toNat ∧ s.dly.toNat ≤ s.cfg.val.tLo.toNat) : s.Ready Ctrl.holdLo
  | signExt (hidx : s.idx.toNat ≤ 9) (hn : s.n = 24#5) (hacc : s.acc.toNat < 2 ^ 24) : s.Ready Ctrl.signExt
  | emit (hidx : s.idx.toNat ≤ 9) (hsmp : IsSample s.smp) : s.Ready Ctrl.emit
  | send (hidx : s.idx = 10#4) : s.Ready Ctrl.send
  | holdStb (hidx : s.idx.toNat ≤ 9) (hdly : 1 ≤ s.dly.toNat ∧ s.dly.toNat ≤ s.cfg.val.tStb.toNat) :
      s.Ready Ctrl.holdStb

variable {s t : State}

theorem State.Inv.data (h : s.Inv) : s.DataInv := ⟨h.noFault, h.batch, h.sent, h.txqFits, h.rxqFits⟩

theorem State.Ready.legal {c : Ctrl} (hc : s.Ready c) : c.toNat ≤ 0x13 := by
  cases hc with
  | idle hlegal => exact hlegal
  | _ => decide

/-- Entering a control state for which the registers are ready gives the invariant. -/
theorem State.DataInv.goto_inv {c : Ctrl} (h : s.DataInv) (hc : s.Ready c) : (s.goto c).Inv := by
  obtain ⟨hFault, hBatch, hSent, hTxq, hRxq⟩ := h
  have hLegal := hc.legal
  cases hc with
  | idle _ hbusy hidx =>
    simp only [Ctrl.busy, List.mem_cons, List.not_mem_nil, or_false, not_or] at hbusy
    obtain ⟨h9, hA, hB, hC, hD, hE, hF, h10, h12⟩ := hbusy
    refine ⟨hFault, hLegal, ?_, fun _ => hidx, ?_, ?_, ?_, ?_, ?_, ?_, ?_, hBatch, hSent, hTxq, hRxq⟩ <;>
      simp only [State.goto_st, h9, hA, hB, hC, hD, hE, hF, h10, h12, or_false, false_implies]
  | clkRise hidx hn hacc | shiftIn hidx hn hacc =>
    exact ⟨hFault, hLegal, nofun, fun _ => hidx, fun _ => ⟨hn, hacc⟩, nofun, nofun, nofun, nofun, nofun, nofun,
      hBatch, hSent, hTxq, hRxq⟩
  | holdHi hidx hn hacc hdly =>
    exact ⟨hFault, hLegal, nofun, fun _ => hidx, fun _ => ⟨hn, hacc⟩, nofun, nofun, nofun, fun _ => hdly, nofun, nofun,
      hBatch, hSent, hTxq, hRxq⟩
  | clkFall hidx hn hacc =>
    exact ⟨hFault, hLegal, nofun, fun _ => hidx, nofun, fun _ => ⟨hn.1, hn.2, hacc⟩, nofun, nofun, nofun, nofun, nofun,
      hBatch, hSent, hTxq, hRxq⟩
  | holdLo hidx hn hacc hdly =>
    exact ⟨hFault, hLegal, nofun, fun _ => hidx, nofun, fun _ => ⟨hn.1, hn.2, hacc⟩, nofun, nofun, nofun, fun _ => hdly,
      nofun, hBatch, hSent, hTxq, hRxq⟩
  | signExt hidx hn hacc =>
    exact ⟨hFault, hLegal, nofun, fun _ => hidx, nofun, nofun, fun _ => ⟨hn, hacc⟩, nofun, nofun, nofun, nofun,
      hBatch, hSent, hTxq, hRxq⟩
  | emit hidx hsmp =>
    exact ⟨hFault, hLegal, nofun, fun _ => hidx, nofun, nofun, nofun, fun _ => hsmp, nofun, nofun, nofun,
      hBatch, hSent, hTxq, hRxq⟩
  | send hidx =>
    exact ⟨hFault, hLegal, fun _ => hidx, fun hne => absurd rfl hne, nofun, nofun, nofun, nofun, nofun, nofun, nofun,
      hBatch, hSent, hTxq, hRxq⟩
  | holdStb hidx hdly =>
    exact ⟨hFault, hLegal, nofun, fun _ => hidx, nofun, nofun, nofun, nofun, nofun, nofun, fun _ => hdly,
      hBatch, hSent, hTxq, hRxq⟩

/-! ## The end of a bit and the phase delay -/

/-- The successor that the bit counter chooses at the end of a bit is one that may be entered (rule R161). -/
theorem State.Ready.of_afterLo {c : Ctrl} (hc : afterLo s.n = .ok c) (hidx : s.idx.toNat ≤ 9)
    (hacc : s.acc.toNat < 2 ^ s.n.toNat) : s.Ready c := by
  rcases afterLo_cases s.n with ⟨hn, e⟩ | ⟨hn, e⟩ | ⟨-, e⟩ <;> cases e.symm.trans hc
  · exact .signExt hidx (BitVec.eq_of_toNat_eq hn) (hn ▸ hacc)
  · exact .clkRise hidx hn hacc

theorem afterLo_ne_error {n : BitVec 5} (hn : n.toNat ≤ 24) (r : Fault) : afterLo n ≠ .error r := by
  rcases afterLo_cases n with ⟨-, e⟩ | ⟨-, e⟩ | ⟨hgt, -⟩
  · simp [e]
  · simp [e]
  · omega

/-- A hold that does not end has at least one cycle left, and no more than before. -/
theorem dly_pred_bounds {d v : Word} (hd : d - 1#32 ≠ 0#32) (h : 1 ≤ d.toNat ∧ d.toNat ≤ v.toNat) :
    1 ≤ (d - 1#32).toNat ∧ (d - 1#32).toNat ≤ v.toNat := by
  bv_omega

/-- A loaded hold has all of its constant left. -/
theorem dly_load_bounds {v : Word} (hv : v ≠ 0#32) : 1 ≤ v.toNat ∧ v.toNat ≤ v.toNat := by
  bv_omega

/-! ## The data part under EMIT, SEND and the queues -/

/-- EMIT appends a sample to a batch of samples. -/
theorem isSample_set {b : Vector Word 10} {k : Nat} {w : Word} (hk : k < 10)
    (hb : ∀ (i : Nat) (h : i < 10), i < k → IsSample b[i]) (hw : IsSample w) :
    ∀ (i : Nat) (h : i < 10), i < k + 1 → IsSample (b.set k w hk)[i] := by
  intro i h hi
  rw [Vector.getElem_set]
  split
  · exact hw
  · exact hb i h (by omega)

/-- The message SEND builds from a full batch has a batch payload (rules R63 and R201). -/
theorem State.DataInv.isBatchPayload_reply (h : s.DataInv) (hidx : s.idx.toNat = batchN) : IsBatchPayload s.reply.payload :=
  ⟨s.batch, rfl, fun i hi => h.batch i hi (hidx ▸ hi)⟩

/-- SEND keeps the data part: it enqueues the reply only if TXQ has room. -/
theorem State.DataInv.of_send (h : s.DataInv) (hidx : s.idx.toNat = batchN) :
    State.DataInv { s with idx := 0#4, txq := if s.txAccepts then enqueue s.txq s.reply else s.txq } := by
  by_cases hTx : s.txAccepts = true
  · have hRoom : s.txq.length < s.cfg.val.txqCap := by
      simp only [State.txAccepts, Bool.and_eq_true, decide_eq_true_eq] at hTx
      exact hTx.2
    rw [if_pos hTx]
    refine { h with batch := nofun, sent := ?_, txqFits := ?_ }
    · intro m hm
      rw [enqueue, ← List.append_assoc, List.mem_append, List.mem_singleton] at hm
      rcases hm with hm | rfl
      · exact h.sent m hm
      · exact h.isBatchPayload_reply hidx
    · simpa [enqueue] using hRoom
  · rw [if_neg hTx]
    exact { h with batch := nofun }

/-! ## The operations -/

/-- An operation keeps the invariant, if a block operation is the one that `st` names. -/
theorem Effect.keeps_inv {i : Instr} (he : Effect s i t) (hs : s.Inv) (hst : ∀ c, encode i = .state5 c → s.st = c) :
    t.Inv := by
  have hd := hs.data
  have hidx {c : Ctrl} (hc : encode i = .state5 c) (hne : c ≠ Ctrl.send) : s.idx.toNat ≤ 9 :=
    hs.idxElsewhere (hst c hc ▸ hne)
  cases he with
  | hsWait | hsAnn0 | hsAnn1 | kickPoll =>
    exact hd.goto_inv (.idle (by split <;> decide) (by split <;> decide) (hidx rfl nofun))
  | drainEmpty | startHigh => exact hd.goto_inv (.idle (by decide) (by decide) (hidx rfl nofun))
  | kickClr | clkIdleLow | stbFall =>
    exact State.DataInv.goto_inv { hd with } (.idle (by decide) (by decide) (hidx rfl nofun))
  | drainHead hq =>
    have hRest := hd.rxqFits
    rw [hq, List.length_cons] at hRest
    exact State.DataInv.goto_inv { hd with rxqFits := Nat.le_of_succ_le hRest }
      (.idle (by decide) (by decide) (hidx rfl nofun))
  | edgePoll =>
    exact State.DataInv.goto_inv { hd with } (.idle (by split <;> decide) (by split <;> decide) (hidx rfl nofun))
  | startLow =>
    exact State.DataInv.goto_inv { hd with } (.clkRise (hidx rfl nofun) (Nat.zero_lt_succ 23) Nat.zero_lt_one)
  | clkRise =>
    obtain ⟨hn, hacc⟩ := hs.clockedHigh (.inl (hst _ rfl))
    exact State.DataInv.goto_inv { hd with }
      (.holdHi (hidx rfl nofun) hn hacc (dly_load_bounds (Config.tHi_ne_zero s.cfg)))
  | holdHiStay hdly =>
    obtain ⟨hn, hacc⟩ := hs.clockedHigh (.inr (.inl (hst _ rfl)))
    exact State.DataInv.goto_inv { hd with }
      (.holdHi (hidx rfl nofun) hn hacc (dly_pred_bounds hdly (hs.holdHi (hst _ rfl))))
  | holdHiLeave =>
    obtain ⟨hn, hacc⟩ := hs.clockedHigh (.inr (.inl (hst _ rfl)))
    exact State.DataInv.goto_inv { hd with } (.shiftIn (hidx rfl nofun) hn hacc)
  | shiftIn =>
    obtain ⟨hn, hacc⟩ := hs.clockedHigh (.inr (.inr (hst _ rfl)))
    have hsucc : (s.n + 1#5).toNat = s.n.toNat + 1 := by bv_omega
    refine State.DataInv.goto_inv { hd with } (.clkFall (hidx rfl nofun) ?_ ?_)
    · show 1 ≤ (s.n + 1#5).toNat ∧ (s.n + 1#5).toNat ≤ 24
      omega
    · show (s.acc.shl32 1 ||| Word.ofBit s.inData).toNat < 2 ^ (s.n + 1#5).toNat
      rw [hsucc]
      exact shl32_or_ofBit_lt hacc s.inData
  | clkFallHold hdly =>
    obtain ⟨hpos, hn, hacc⟩ := hs.clockedLow (.inl (hst _ rfl))
    exact State.DataInv.goto_inv { hd with } (.holdLo (hidx rfl nofun) ⟨hpos, hn⟩ hacc (dly_load_bounds hdly))
  | clkFallLeave _ hc =>
    obtain ⟨-, -, hacc⟩ := hs.clockedLow (.inl (hst _ rfl))
    exact State.DataInv.goto_inv { hd with } (.of_afterLo hc (hidx rfl nofun) hacc)
  | clkFallFault _ hr =>
    obtain ⟨-, hn, -⟩ := hs.clockedLow (.inl (hst _ rfl))
    exact absurd hr (afterLo_ne_error hn _)
  | holdLoStay hdly =>
    obtain ⟨hpos, hn, hacc⟩ := hs.clockedLow (.inr (hst _ rfl))
    exact State.DataInv.goto_inv { hd with }
      (.holdLo (hidx rfl nofun) ⟨hpos, hn⟩ hacc (dly_pred_bounds hdly (hs.holdLo (hst _ rfl))))
  | holdLoLeave _ hc =>
    obtain ⟨-, -, hacc⟩ := hs.clockedLow (.inr (hst _ rfl))
    exact State.DataInv.goto_inv { hd with } (.of_afterLo hc (hidx rfl nofun) hacc)
  | holdLoFault _ hr =>
    obtain ⟨-, hn, -⟩ := hs.clockedLow (.inr (hst _ rfl))
    exact absurd hr (afterLo_ne_error hn _)
  | signExt =>
    exact State.DataInv.goto_inv { hd with }
      (.emit (hidx rfl nofun) (shl32_asr32_eq_sext24 s.acc ▸ isSample_sext24 s.acc))
  | emit hlt =>
    have hle := hidx rfl nofun
    have hsucc : (s.idx + 1#4).toNat = s.idx.toNat + 1 := by bv_omega
    refine State.DataInv.goto_inv
      { hd with batch := hsucc ▸ isSample_set hlt hd.batch (hs.sampleReady (hst _ rfl)) } ?_
    split
    next hten => exact .send (BitVec.eq_of_toNat_eq (hsucc.trans hten))
    next hten => exact .idle (by decide) (by decide) (hsucc.trans_le (by simp only [batchN] at hten; omega))
  | emitFault hge => exact absurd (Nat.lt_succ_of_le (hidx rfl nofun)) hge
  | send hfull => exact (hd.of_send hfull).goto_inv (.idle (by decide) (by decide) (Nat.zero_le 9))
  | sendFault hne => exact absurd (congrArg BitVec.toNat (hs.idxAtSend (hst _ rfl))) hne
  | stbRiseHold hdly =>
    exact State.DataInv.goto_inv { hd with } (.holdStb (hidx rfl nofun) (dly_load_bounds hdly))
  | stbRiseLeave | holdStbLeave =>
    exact State.DataInv.goto_inv { hd with } (.idle (by decide) (by decide) (hidx rfl nofun))
  | holdStbStay hdly =>
    exact State.DataInv.goto_inv { hd with }
      (.holdStb (hidx rfl nofun) (dly_pred_bounds hdly (hs.holdStb (hst _ rfl))))
  | hStatus | hKick => exact { hs with }
  | hPushRoom hq => exact { hs with rxqFits := by simpa [enqueue] using hq }
  | hPushFull | hPopEmpty => exact hs
  | hPopHead hq =>
    have hSent := hs.sent
    have hFits := hs.txqFits
    rw [hq] at hSent hFits
    exact { hs with
      sent := by simpa [enqueue] using hSent
      txqFits := Nat.le_of_succ_le hFits }
  | hReset =>
    exact State.DataInv.goto_inv (s := s.resetBlock (Config.resetDraw s.tick)) { hd with batch := nofun }
      (.idle (by decide) (by decide) (Nat.zero_le 9))

/-- Settles O48: a step performs an operation on the state with its move taken and its draws latched, and the operation keeps
the invariant; a reserved code is never held. -/
theorem stepKeepsTheInvariant : Obligations.StepKeepsTheInvariant := by
  intro s t hs h
  rcases step_cases h with ⟨d, i, -, -, hcode, he⟩ | ⟨d, -, -, hres, -⟩ | ⟨c, args, i, -, hcode, he⟩
  · exact he.keeps_inv { hs with } fun c hc => Code.state5.inj (hcode.symm.trans hc)
  · exact absurd hs.legal (by simp only [State.legal]; omega)
  · exact he.keeps_inv { hs with } fun c hc => nomatch hcode.symm.trans hc

end Sys2Proof.Machine
end

section
/-!
PROOFS. The payload of an outbound message as the host reads it (`spec/20_memory.md` rules R63 and R64), and the order in which
messages reach the host (rule R71).
-/

namespace Sys2Proof.Machine

/-! ## Bytes and halves of a payload -/

/-- Byte `k` of a word is its bits `8k + 7` to `8k`. -/
theorem wordBytes_getElem? (w : Word) {k : Nat} (hk : k < 4) : (wordBytes w)[k]? = some (w.extractLsb' (8 * k) 8) := by
  match k with
  | 0 | 1 | 2 | 3 => rfl

/-- Four bytes a word: the byte at `4i + k` is byte `k` of word `i`. -/
theorem flatMap_wordBytes_getElem? (ws : List Word) {k : Nat} (hk : k < 4) :
    ∀ i : Nat, (ws.flatMap wordBytes)[4 * i + k]? = ws[i]?.map fun w => w.extractLsb' (8 * k) 8 := by
  induction ws with
  | nil => simp
  | cons w ws ih =>
    intro i
    rw [List.flatMap_cons]
    cases i with
    | zero =>
      rw [List.getElem?_append_left (by simpa using hk)]
      simp [wordBytes_getElem? w hk]
    | succ i =>
      rw [List.getElem?_append_right (by rw [wordBytes_length]; omega), wordBytes_length, List.getElem?_cons_succ, ← ih i,
        show 4 * (i + 1) + k - 4 = 4 * i + k by omega]

theorem payloadOf_length (b : Vector Word 10) : (payloadOf b).length = 40 := by
  simp [payloadOf, List.length_flatMap]

/-- The host's byte view of a payload (rule R64). -/
theorem payloadByte_payloadOf (b : Vector Word 10) {i k : Nat} (hi : i < 10) (hk : k < 4) :
    payloadByte (payloadOf b) (4 * i + k) = some (b[i].extractLsb' (8 * k) 8) := by
  simp [payloadByte, payloadOf, flatMap_wordBytes_getElem? _ hk, hi]

/-- The host's view of a payload in 16-bit halves: half `k` of entry `i` is the entry's bytes `2k + 1` and `2k` (rule R64). -/
theorem payloadHalf_payloadOf (b : Vector Word 10) {i k : Nat} (hi : i < 10) (hk : k < 2) :
    payloadHalf (payloadOf b) (2 * i + k) = some (b[i].extractLsb' (16 * k) 16) := by
  have hHi : payloadByte (payloadOf b) (2 * (2 * i + k) + 1) = some (b[i].extractLsb' (8 * (2 * k + 1)) 8) := by
    rw [← payloadByte_payloadOf b hi (by omega), show 2 * (2 * i + k) + 1 = 4 * i + (2 * k + 1) by omega]
  have hLo : payloadByte (payloadOf b) (2 * (2 * i + k)) = some (b[i].extractLsb' (8 * (2 * k)) 8) := by
    rw [← payloadByte_payloadOf b hi (by omega), show 2 * (2 * i + k) = 4 * i + 2 * k by omega]
  have hJoin : b[i].extractLsb' (8 * (2 * k + 1)) 8 ++ b[i].extractLsb' (8 * (2 * k)) 8 =
      b[i].extractLsb' (16 * k) 16 := by
    rw [BitVec.extractLsb'_append_extractLsb'_eq_extractLsb' (by omega), ← Nat.mul_assoc]
  rw [payloadHalf, hHi, hLo]
  exact congrArg some hJoin

/-- Settles O33: the length, and the byte and half views of a payload. -/
theorem payloadIsLittleEndian : Obligations.PayloadIsLittleEndian := fun b =>
  ⟨payloadOf_length b, fun _ _ => payloadByte_payloadOf b, fun _ _ => payloadHalf_payloadOf b⟩

/-! ## Outbound messages on their way to the host -/

/-- The outbound messages the transport holds or the host has received, in the order they were sent. -/
def State.outbound (s : State) : List Message := s.hostInbox ++ s.txq

/-- H_POP moves the head of TXQ to the end of what the host has received, so the order is kept (rules R71 and R223). -/
theorem State.outbound_pop {s : State} {m : Message} {rest : List Message} (hq : s.txq = m :: rest) :
    State.outbound { s with txq := rest, hostInbox := enqueue s.hostInbox m } = s.outbound := by
  simp [State.outbound, enqueue, hq]

/-- SEND appends its reply to the outbound messages, or drops it (rule R201). -/
theorem State.outbound_send (s : State) (c : Ctrl) :
    (State.goto { s with idx := 0#4, txq := if s.txAccepts then enqueue s.txq s.reply else s.txq } c).outbound =
      if s.txAccepts then s.outbound ++ [s.reply] else s.outbound := by
  by_cases hTx : s.txAccepts = true <;> simp [State.outbound, enqueue, hTx]

/-- An operation keeps the outbound messages, or is a SEND that appends its reply. -/
theorem Effect.outbound {s t : State} {i : Instr} (he : Effect s i t) :
    t.outbound = s.outbound ∨ (i = .send ∧ t.outbound = s.outbound ++ [s.reply]) := by
  cases he with
  | send =>
    rw [State.outbound_send]
    split
    · exact .inr ⟨rfl, rfl⟩
    · exact .inl rfl
  | hPopHead hq => exact .inl (State.outbound_pop hq)
  | _ => exact .inl rfl

/-- Settles O53: taking the move and latching the draws leaves the queues, the endpoints and the batch alone, and the operation
performed is SEND only where `st` names it. -/
theorem messagesReachTheHostInOrder : Obligations.MessagesReachTheHostInOrder := by
  intro s t h
  rcases step_cases h with ⟨d, i, -, -, hcode, he⟩ | ⟨d, -, -, -, rfl⟩ | ⟨c, args, i, -, hcode, he⟩
  · obtain hkeep | ⟨rfl, hsend⟩ := he.outbound
    · exact .inl hkeep
    · exact .inr ⟨(Code.state5.inj hcode).symm, hsend⟩
  · exact .inl rfl
  · obtain hkeep | ⟨rfl, -⟩ := he.outbound
    · exact .inl hkeep
    · cases hcode

end Sys2Proof.Machine
end

section
/-!
PROOFS. The decoder and the encoder (`spec/30_encoding.md` rules R80, R81 and R88): each undoes the other, and the codes outside
the two tables are rejected.
-/

namespace Sys2Proof

/-- The table read forwards and then backwards, one row for each operation. -/
theorem decode_encode (i : Instr) : decode (encode i) = .ok i := by
  cases i <;> rfl

theorem encode_of_decode {c : Code} {i : Instr} (h : decode c = .ok i) : encode i = c := by
  cases c with
  | state5 c => exact encode_of_decodeState5 h
  | hostEv3 c args => exact encode_of_decodeHostEv3 h

theorem decodeState5_of_encode {c : Ctrl} {i : Instr} (h : encode i = .state5 c) : decodeState5 c = .ok i := by
  rw [← decode_encode i, h, decode]

theorem decodeState5_reserved {c : Ctrl} (h : 0x14 ≤ c.toNat) : decodeState5 c = .error (.reservedState c) := by
  unfold decodeState5
  split
  case h_21 => rfl
  all_goals omega

theorem decodeHostEv3_reserved {c : BitVec 3} (h : 5 ≤ c.toNat) (args : HostArgs) :
    decodeHostEv3 c args = .error (.reservedHostCode c) := by
  unfold decodeHostEv3
  split
  case h_6 => rw [if_neg (by omega)]
  all_goals omega

/-- Settles O1, row by row of the two tables. -/
theorem encodedOperationDecodesBack : Obligations.EncodedOperationDecodesBack := decode_encode

/-- Settles O2: a row that the decoder finds has the code that was asked for. -/
theorem decodedCodeIsItsEncoding : Obligations.DecodedCodeIsItsEncoding := fun _ _ => encode_of_decode

/-- Settles O3: no row of either table has a reserved code. -/
theorem reservedCodesNameNoOperation : Obligations.ReservedCodesNameNoOperation :=
  ⟨fun _ => decodeState5_reserved, fun _ args h => decodeHostEv3_reserved h args⟩

/-- Settles O4: each code is the one that the encoder gives to the operation. -/
theorem sampleCodesDecode : Obligations.SampleCodesDecode :=
  ⟨decode_encode .hsWait, decode_encode .drain, decode_encode .shiftIn, decode_encode .send, decode_encode .hReset⟩

end Sys2Proof
end

section
/-!
PROOFS. The answers of a block step (rule R111), by the code in `st` and the fault record, and what a reserved code leads to
(`spec/30_encoding.md` rule R81).
-/

namespace Sys2Proof.Machine

theorem blockStep_of_encode {i : Instr} {s : State} (hst : encode i = .state5 s.st) (hf : s.fault = none) (d : Draws) :
    blockStep d s = exec i (s.withDraws d) := by
  rw [blockStep]
  simp only [hf, decodeState5_of_encode hst]

theorem blockStep_of_reserved {s : State} (hst : 0x14 ≤ s.st.toNat) (hf : s.fault = none) (d : Draws) :
    blockStep d s = .next ((s.withDraws d).raise (.illegalState s.st)) := by
  rw [blockStep]
  simp only [hf, decodeState5_reserved hst]

theorem blockStep_of_fault {s : State} {r : Fault} (hf : s.fault = some r) (d : Draws) : blockStep d s = .fault r := by
  rw [blockStep]
  simp only [hf]

theorem legal_of_afterLo {n : BitVec 5} {c : Ctrl} (h : afterLo n = .ok c) : c.toNat ≤ 0x13 := by
  rcases afterLo_cases n with ⟨-, e⟩ | ⟨-, e⟩ | ⟨-, e⟩ <;> cases e.symm.trans h <;> decide

/-- Every successor that an operation writes to `st` is a code of table R80. -/
theorem Effect.st_eq_or_legal {s t : State} {i : Instr} (he : Effect s i t) : t.st = s.st ∨ t.legal := by
  cases he with
  | hsWait | hsAnn0 | hsAnn1 | kickPoll | edgePoll | emit =>
    refine .inr ?_
    simp only [State.legal, State.goto_st]
    split <;> decide
  | clkFallLeave _ hc | holdLoLeave _ hc => exact .inr (legal_of_afterLo hc)
  | clkFallFault | holdLoFault | emitFault | sendFault => exact .inl rfl
  | hStatus | hKick | hPushRoom | hPushFull | hPopHead | hPopEmpty => exact .inl rfl
  | _ => exact .inr (by simp)

/-- Settles O6: the decoder rejects the code, the block step records it, and the fault record stops the block; every operation
keeps `st` or writes a code of table R80. -/
theorem reservedStateRaisesIllegalState : Obligations.ReservedStateRaisesIllegalState :=
  ⟨fun s d hst hf => ⟨decodeState5_reserved hst, _, blockStep_of_reserved hst hf d, rfl,
      blockStep_of_fault (s := (s.withDraws d).raise (.illegalState s.st)) rfl⟩,
    fun _ _ _ h => (exec_effect h).st_eq_or_legal⟩

end Sys2Proof.Machine
end

section
/-!
PROOFS. Runs of given moves, one move at a time. `Runs` says which state a list of moves leads to, `RunsTo` says it up to the
registers that only keep time and draws, and `Runs.runMoves_eq` ties both to the model's `runMoves`.
-/

namespace Sys2Proof.Machine

/-! ## The moves still to come do not matter to a move -/

theorem State.moveTo_load (s : State) (ms : List Move) (next : Except Fault Ctrl) {w : State → State}
    (hw : w (s.load ms) = (w s).load ms) : (s.load ms).moveTo next w = (s.moveTo next w).load ms := by
  cases next with
  | ok c => exact congrArg (State.goto · c) hw
  | error r => rfl

/-- No operation reads or writes the script. -/
theorem exec_load {i : Instr} {s t : State} (h : exec i s = .next t) (ms : List Move) :
    exec i (s.load ms) = .next (t.load ms) := by
  cases i <;> obtain rfl := Host.Outcome.next.inj h
  case drain =>
    refine congrArg Host.Outcome.next ?_
    rw [State.load_rxq]
    cases s.rxq <;> rfl
  case hPop =>
    refine congrArg Host.Outcome.next ?_
    rw [State.load_txq]
    cases s.txq <;> rfl
  case startTest | send | hPush =>
    rw [apply_ite (State.load · ms)]
    rfl
  case emit =>
    rw [apply_dite (State.load · ms)]
    rfl
  case clkRise | holdHi | clkFall | holdLo | stbRise | holdStb =>
    exact congrArg Host.Outcome.next (s.moveTo_load ms _ rfl)
  all_goals rfl

theorem runMove_load {m : Move} {s t : State} (h : runMove m s = .next t) (ms : List Move) :
    runMove m (s.load ms) = .next (t.load ms) := by
  cases m with
  | block d =>
    simp only [runMove, blockStep, State.load_fault, State.load_st] at h ⊢
    split at h
    next => cases h
    next =>
      split at h
      next => exact exec_load h ms
      next => exact congrArg (Host.Outcome.next <| State.load · ms) (Host.Outcome.next.inj h)
  | host c args =>
    simp only [runMove, hostMove] at h ⊢
    split at h
    next => exact exec_load h ms
    next => cases h
    next => cases h

/-! ## Runs -/

/-- `Runs ms s t`: the moves `ms`, made one after the other from `s`, each take place and lead to `t`. -/
inductive Runs : List Move → State → State → Prop
  | nil (s : State) : Runs [] s s
  | cons {m : Move} {ms : List Move} {s t u : State} (hmove : runMove m { s with tick := s.tick + 1 } = .next t)
      (hrest : Runs ms t u) : Runs (m :: ms) s u

theorem Runs.append {ms ms' : List Move} {s t u : State} (h : Runs ms s t) (h' : Runs ms' t u) : Runs (ms ++ ms') s u := by
  induction h with
  | nil => exact h'
  | cons hmove _ ih => exact .cons hmove (ih h')

theorem Runs.runMoves_eq {ms : List Move} {s t : State} (h : Runs ms s t) : runMoves ms s = .next t := by
  induction h with
  | nil s => rfl
  | @cons m ms s t u hmove _ ih =>
    have hstep : step (s.load (m :: ms)) = .next (t.load ms) :=
      (step_of_script _ m (ms ++ s.script) rfl).trans (runMove_load hmove ms)
    calc runMoves (m :: ms) s = runMoves ms t := by simp only [runMoves, List.length_cons, runFor, hstep]
      _ = .next u := ih

/-- `RunsTo ms s t`: the moves `ms` lead from `s` to a state that is `t` but for the delay counter, the latched draws and the
move number. Every rule below holds whatever these three are at its start, which is why they can be left open at its end. -/
def RunsTo (ms : List Move) (s t : State) : Prop := ∃ dly d k, Runs ms s { t with dly := dly, draws := d, tick := k }

theorem RunsTo.refl (s : State) : RunsTo [] s s := ⟨_, _, _, .nil s⟩

theorem RunsTo.append {ms ms' : List Move} {s t u : State} (h : RunsTo ms s t)
    (h' : ∀ dly d k, RunsTo ms' { t with dly := dly, draws := d, tick := k } u) : RunsTo (ms ++ ms') s u := by
  obtain ⟨dly, d, k, h⟩ := h
  obtain ⟨dly', d', k', h'⟩ := h' dly d k
  exact ⟨dly', d', k', h.append h'⟩

theorem RunsTo.cons {m : Move} {ms : List Move} {s t u : State} (h : RunsTo [m] s t)
    (h' : ∀ dly d k, RunsTo ms { t with dly := dly, draws := d, tick := k } u) : RunsTo (m :: ms) s u :=
  h.append h'

/-- A block step performs the operation that `st` names, with its draws latched (rule R111). -/
theorem RunsTo.block {i : Instr} {d : Draws} {ms : List Move} {s t u : State} (hst : encode i = .state5 s.st)
    (hf : s.fault = none) (hexec : exec i { s with draws := d, tick := s.tick + 1 } = .next t) (hrest : RunsTo ms t u) :
    RunsTo (.block d :: ms) s u := by
  obtain ⟨dly, d', k, hrest⟩ := hrest
  have hmove : runMove (.block d) { s with tick := s.tick + 1 } = .next t :=
    (blockStep_of_encode (s := { s with tick := s.tick + 1 }) hst hf d).trans hexec
  exact ⟨dly, d', k, .cons hmove hrest⟩

theorem RunsTo.single {i : Instr} {d d' : Draws} {dly : Word} {k : Nat} {s t : State} (hst : encode i = .state5 s.st)
    (hf : s.fault = none)
    (hexec : exec i { s with draws := d, tick := s.tick + 1 } = .next { t with dly := dly, draws := d', tick := k }) :
    RunsTo [.block d] s t :=
  .block hst hf hexec ⟨_, _, _, .nil _⟩

end Sys2Proof.Machine
end

section
/-!
PROOFS. The operations of an acquisition as runs (`spec/43_sampler.md` rules R164 to R178, `spec/44_batch_dispatch.md` rules R200
and R201): what the block steps of each control state lead to, with a loading state and its hold taken together.
-/

namespace Sys2Proof.Machine

/-! ## The snapshot -/

/-- The snapshot bit by bit (rule R112). -/
theorem compose_bit (kickBit : Nat) (pins : Word) (kick : Bool) {b : Nat} (hb : b < 32) :
    (compose kickBit pins kick).bit b = if b = kickBit then kick else pins.bit b := by
  have hmask : (Word.mask kickBit).getLsbD b = decide (b = kickBit) := Word.bit_mask hb
  have hkick : (Word.ofBit kick <<< kickBit).getLsbD b = (decide (b = kickBit) && kick) := by
    cases kick
    · simp [Word.ofBit]
    · simpa [Word.ofBit] using hmask
  simp only [compose, Word.bit, BitVec.getLsbD_or, BitVec.getLsbD_and, BitVec.getLsbD_not, hmask, hkick, hb]
  by_cases h : b = kickBit <;> simp [h]

theorem Config.ctrlBit_lt (c : Config) : c.val.ctrlBit < 32 := by
  have := Config.bits c
  omega

theorem Config.dataBit_lt (c : Config) : c.val.dataBit < 32 := by
  have := Config.bits c
  omega

theorem Config.startBit_lt (c : Config) : c.val.startBit < 32 := by
  have := Config.bits c
  omega

variable {s : State}

theorem State.inLatch_bit_of_ne (s : State) {b : Nat} (hb : b < 32) (hne : b ≠ s.cfg.val.kickBit) :
    s.inLatch.bit b = s.draws.pins.bit b := by
  rw [State.inLatch, compose_bit _ _ _ hb, if_neg hne]

theorem State.inCtrl_eq_pin (s : State) : s.inCtrl = s.draws.pins.bit s.cfg.val.ctrlBit := by
  obtain ⟨hne, -, -⟩ := Config.kick_distinct s.cfg
  exact s.inLatch_bit_of_ne (Config.ctrlBit_lt s.cfg) hne

theorem State.inData_eq_pin (s : State) : s.inData = s.draws.pins.bit s.cfg.val.dataBit := by
  obtain ⟨-, hne, -⟩ := Config.kick_distinct s.cfg
  exact s.inLatch_bit_of_ne (Config.dataBit_lt s.cfg) hne

theorem State.inStart_eq_pin (s : State) : s.inStart = s.draws.pins.bit s.cfg.val.startBit := by
  obtain ⟨-, -, hne⟩ := Config.kick_distinct s.cfg
  exact s.inLatch_bit_of_ne (Config.startBit_lt s.cfg) hne

/-! ## The operations that choose between two ways -/

theorem exec_edgePoll_of_edge (h : s.inCtrl = !s.prev) :
    exec .edgePoll s = .next { s with prev := !s.prev, st := Ctrl.clkIdleLow } := by
  have hedge : s.edge = true := by simp [State.edge, h]
  simp [exec, execEdgePoll, State.observeCtrl, State.goto, hedge, h]

theorem exec_startTest_of_low (h : s.inStart = false) :
    exec .startTest s = .next { s with acc := 0#32, n := 0#5, st := Ctrl.clkRise } := by
  simp [exec, execStartTest, h]

theorem exec_startTest_of_high (h : s.inStart = true) : exec .startTest s = .next { s with st := Ctrl.edgePoll } := by
  simp [exec, execStartTest, State.goto, h]

theorem exec_emit_of_lt (h : s.idx.toNat < batchN) :
    exec .emit s = .next { s with
      batch := s.batch.set s.idx.toNat s.smp h, idx := s.idx + 1#4
      st := if s.idx.toNat + 1 = batchN then Ctrl.send else Ctrl.stbRise } := by
  rw [exec, execEmit, dif_pos h]

theorem exec_send_of_full (h : s.idx.toNat = batchN) :
    exec .send s = .next { s with
      idx := 0#4, txq := if s.txAccepts then s.txq ++ [s.reply] else s.txq, st := Ctrl.stbRise } := by
  rw [exec, execSend, if_pos h]
  rfl

/-! ## The phase-delay machine (rule R160) -/

/-- `i` is the operation of the hold state `hold`, which the bit counter makes leave by `exit`. -/
structure IsHold (i : Instr) (hold : Ctrl) (exit : BitVec 5 → Except Fault Ctrl) : Prop where
  code : encode i = .state5 hold
  counts : ∀ s : State, exec i s = .next (s.holdStep hold (exit s.n))

theorem isHold_holdHi : IsHold .holdHi Ctrl.holdHi fun _ => .ok Ctrl.shiftIn := ⟨rfl, fun _ => rfl⟩
theorem isHold_holdLo : IsHold .holdLo Ctrl.holdLo afterLo := ⟨rfl, fun _ => rfl⟩
theorem isHold_holdStb : IsHold .holdStb Ctrl.holdStb fun _ => .ok Ctrl.stbFall := ⟨rfl, fun _ => rfl⟩

/-- A hold is left after as many block steps as `dly` says at its start, by induction on them. -/
theorem IsHold.runsTo {i : Instr} {hold c : Ctrl} {exit : BitVec 5 → Except Fault Ctrl} (hi : IsHold i hold exit)
    (ds : List Draws) (s : State) (hst : s.st = hold) (hf : s.fault = none) (hpos : s.dly ≠ 0#32)
    (hlen : ds.length = s.dly.toNat) (hc : exit s.n = .ok c) : RunsTo (ds.map .block) s { s with st := c } := by
  induction ds generalizing s with
  | nil => exact absurd (BitVec.eq_of_toNat_eq hlen.symm) hpos
  | cons d ds ih =>
    rw [List.length_cons] at hlen
    refine .block (hst ▸ hi.code) hf (hi.counts _) ?_
    rcases State.holdStep_cases { s with draws := d, tick := s.tick + 1 } hold (exit s.n) with
      ⟨hd, e⟩ | ⟨hd, c', hc', e⟩ | ⟨-, r, hr, -⟩
    · rw [e]
      exact ih _ rfl hf hd (show ds.length = (s.dly - 1#32).toNat by bv_omega) hc
    · obtain rfl : c = c' := Except.ok.inj (hc.symm.trans hc')
      have hd : s.dly - 1#32 = 0#32 := hd
      obtain rfl : ds = [] := List.length_eq_zero_iff.mp (by bv_omega)
      rw [e]
      exact .refl _
    · cases hc.symm.trans hr

/-- A loading state has chosen between its hold state and, with a constant of 0, the hold's exit; either way the hold takes as
many block steps as the constant says. -/
theorem State.runsTo_loadHold {i : Instr} {hold c : Ctrl} {exit : BitVec 5 → Except Fault Ctrl} (hi : IsHold i hold exit)
    {ds : List Draws} {v : Word} (hlen : ds.length = v.toNat) {drive : State → State} (hdrive : (drive s).n = s.n)
    (hf : (drive s).fault = none) (hc : exit s.n = .ok c) :
    RunsTo (ds.map .block) (s.loadHold v hold (exit s.n) drive) { drive s with st := c } := by
  rcases s.loadHold_cases v hold (exit s.n) drive with ⟨hv, e⟩ | ⟨hv, c', hc', e⟩ | ⟨-, r, hr, -⟩
  · rw [e]
    exact hi.runsTo ds _ rfl hf hv hlen (hdrive ▸ hc)
  · obtain rfl : c = c' := Except.ok.inj (hc.symm.trans hc')
    obtain rfl : ds = [] := List.length_eq_zero_iff.mp (by simpa [hv] using hlen)
    rw [e]
    exact ⟨_, _, _, .nil _⟩
  · cases hc.symm.trans hr

/-! ## The output latch under a pulse -/

theorem or_and_not_self (w m : Word) : (w ||| m) &&& ~~~m = w &&& ~~~m := by
  rw [BitVec.and_or_distrib_right, BitVec.and_not_self]
  exact BitVec.or_zero

theorem and_and_self_right (w m : Word) : w &&& m &&& m = w &&& m := by
  rw [BitVec.and_assoc, BitVec.and_self]

/-! ## From the transition to the start condition -/

theorem runsTo_edgePoll {d : Draws} (hst : s.st = Ctrl.edgePoll) (hf : s.fault = none)
    (hctrl : d.pins.bit s.cfg.val.ctrlBit = !s.prev) :
    RunsTo [.block d] s { s with prev := !s.prev, st := Ctrl.clkIdleLow } :=
  .single (i := .edgePoll) (hst ▸ rfl) hf (exec_edgePoll_of_edge ((State.inCtrl_eq_pin _).trans hctrl))

theorem runsTo_clkIdleLow {d : Draws} (hst : s.st = Ctrl.clkIdleLow) (hf : s.fault = none) :
    RunsTo [.block d] s { s with out := s.out &&& ~~~s.clkMask, st := Ctrl.startTest } :=
  .single (i := .clkIdleLow) (hst ▸ rfl) hf rfl

theorem runsTo_startTest_low {d : Draws} (hst : s.st = Ctrl.startTest) (hf : s.fault = none)
    (hstart : d.pins.bit s.cfg.val.startBit = false) :
    RunsTo [.block d] s { s with acc := 0#32, n := 0#5, st := Ctrl.clkRise } :=
  .single (i := .startTest) (hst ▸ rfl) hf (exec_startTest_of_low ((State.inStart_eq_pin _).trans hstart))

theorem runsTo_startTest_high {d : Draws} (hst : s.st = Ctrl.startTest) (hf : s.fault = none)
    (hstart : d.pins.bit s.cfg.val.startBit = true) : RunsTo [.block d] s { s with st := Ctrl.edgePoll } :=
  .single (i := .startTest) (hst ▸ rfl) hf (exec_startTest_of_high ((State.inStart_eq_pin _).trans hstart))

/-! ## One clock pulse -/

theorem runsTo_clkRise_holdHi {d : Draws} {ds : List Draws} (hst : s.st = Ctrl.clkRise) (hf : s.fault = none)
    (hlen : ds.length = s.cfg.val.tHi.toNat) :
    RunsTo (.block d :: ds.map .block) s { s with out := s.out ||| s.clkMask, st := Ctrl.shiftIn } :=
  .block (i := .clkRise) (hst ▸ rfl) hf rfl (State.runsTo_loadHold isHold_holdHi hlen rfl hf rfl)

theorem runsTo_shiftIn {d : Draws} (hst : s.st = Ctrl.shiftIn) (hf : s.fault = none) :
    RunsTo [.block d] s { s with
      acc := s.acc.shl32 1 ||| Word.ofBit (d.pins.bit s.cfg.val.dataBit), n := s.n + 1#5, st := Ctrl.clkFall } := by
  rw [← State.inData_eq_pin { s with draws := d }]
  exact .single (i := .shiftIn) (hst ▸ rfl) hf rfl

theorem runsTo_clkFall_holdLo {d : Draws} {ds : List Draws} {c : Ctrl} {out : Word} (hst : s.st = Ctrl.clkFall)
    (hf : s.fault = none) (hlen : ds.length = s.cfg.val.tLo.toNat) (hc : afterLo s.n = .ok c)
    (hout : s.out &&& ~~~s.clkMask = out) :
    RunsTo (.block d :: ds.map .block) s { s with out := out, st := c } := by
  subst hout
  exact .block (i := .clkFall) (hst ▸ rfl) hf rfl (State.runsTo_loadHold isHold_holdLo hlen rfl hf hc)

/-- One pulse shifts in the data pin's level at its SHIFT_IN, and OUT, with the clock low before it, is the same after it. -/
theorem runsTo_pulse {dRise dShift dFall : Draws} {his los : List Draws} {c : Ctrl} (hst : s.st = Ctrl.clkRise)
    (hf : s.fault = none) (hlow : s.out &&& ~~~s.clkMask = s.out) (hHi : his.length = s.cfg.val.tHi.toNat)
    (hLo : los.length = s.cfg.val.tLo.toNat) (hc : afterLo (s.n + 1#5) = .ok c) :
    RunsTo (.block dRise :: his.map .block ++ .block dShift :: .block dFall :: los.map .block) s { s with
      acc := s.acc.shl32 1 ||| Word.ofBit (dShift.pins.bit s.cfg.val.dataBit), n := s.n + 1#5, st := c } :=
  .append (runsTo_clkRise_holdHi hst hf hHi) fun _ _ _ =>
    .cons (runsTo_shiftIn rfl hf) fun _ _ _ =>
      runsTo_clkFall_holdLo rfl hf hLo hc ((or_and_not_self _ _).trans hlow)

/-! ## Storing the sample and the strobe -/

theorem runsTo_signExt {d : Draws} (hst : s.st = Ctrl.signExt) (hf : s.fault = none) :
    RunsTo [.block d] s { s with smp := s.acc.sext24, st := Ctrl.emit } := by
  rw [← shl32_asr32_eq_sext24]
  exact .single (i := .signExt) (hst ▸ rfl) hf rfl

theorem runsTo_emit {d : Draws} (hst : s.st = Ctrl.emit) (hf : s.fault = none) (h : s.idx.toNat < 10) :
    RunsTo [.block d] s { s with
      batch := s.batch.set s.idx.toNat s.smp h, idx := s.idx + 1#4
      st := if s.idx.toNat + 1 = batchN then Ctrl.send else Ctrl.stbRise } :=
  .single (i := .emit) (hst ▸ rfl) hf (exec_emit_of_lt (s := { s with draws := d, tick := s.tick + 1 }) h)

theorem runsTo_send {d : Draws} (hst : s.st = Ctrl.send) (hf : s.fault = none) (h : s.idx.toNat = batchN) :
    RunsTo [.block d] s { s with
      idx := 0#4, st := Ctrl.stbRise
      txq := if d.txOk = true ∧ s.txq.length < s.cfg.val.txqCap then s.txq ++ [s.reply] else s.txq } := by
  have hexec := exec_send_of_full (s := { s with draws := d, tick := s.tick + 1 }) h
  simp only [State.txAccepts, Bool.and_eq_true, decide_eq_true_eq] at hexec
  exact .single (i := .send) (hst ▸ rfl) hf hexec

theorem runsTo_stbRise_holdStb {d : Draws} {ds : List Draws} (hst : s.st = Ctrl.stbRise) (hf : s.fault = none)
    (hlen : ds.length = s.cfg.val.tStb.toNat) :
    RunsTo (.block d :: ds.map .block) s { s with out := s.out ||| s.stbMask, st := Ctrl.stbFall } :=
  .block (i := .stbRise) (hst ▸ rfl) hf rfl (State.runsTo_loadHold isHold_holdStb hlen rfl hf rfl)

theorem runsTo_stbFall {d : Draws} {out : Word} (hst : s.st = Ctrl.stbFall) (hf : s.fault = none)
    (hout : s.out &&& ~~~s.stbMask = out) : RunsTo [.block d] s { s with out := out, st := Ctrl.edgePoll } := by
  subst hout
  exact .single (i := .stbFall) (hst ▸ rfl) hf rfl

theorem runsTo_strobe {d dFall : Draws} {ds : List Draws} (hst : s.st = Ctrl.stbRise) (hf : s.fault = none)
    (hlen : ds.length = s.cfg.val.tStb.toNat) :
    RunsTo (.block d :: ds.map .block ++ [.block dFall]) s { s with
      out := s.out &&& ~~~s.stbMask, st := Ctrl.edgePoll } :=
  .append (runsTo_stbRise_holdStb hst hf hlen) fun _ _ _ => runsTo_stbFall rfl hf (or_and_not_self _ _)

/-- The sample `w` stored, and with the tenth the batch sent if the transport takes it (rules R200 and R201). -/
def State.stored (s : State) (w : Word) (h : s.idx.toNat < 10) (txOk : Bool) : State :=
  { s with
    smp := w
    batch := s.batch.set s.idx.toNat w h
    idx := if s.idx = 9#4 then 0#4 else s.idx + 1#4
    txq := if s.idx = 9#4 ∧ txOk = true ∧ s.txq.length < s.cfg.val.txqCap then
        s.txq ++ [⟨s.recDst, s.recSrc, payloadOf (s.batch.set s.idx.toNat w h)⟩] else s.txq }

theorem State.stored_of_tenth {w : Word} {h : s.idx.toNat < 10} {txOk : Bool} (h9 : s.idx = 9#4) :
    s.stored w h txOk = { s with
      smp := w, batch := s.batch.set s.idx.toNat w h, idx := 0#4
      txq := if txOk = true ∧ s.txq.length < s.cfg.val.txqCap then
          s.txq ++ [⟨s.recDst, s.recSrc, payloadOf (s.batch.set s.idx.toNat w h)⟩] else s.txq } := by
  simp only [State.stored, h9, if_true, true_and]

theorem State.stored_of_not_tenth {w : Word} {h : s.idx.toNat < 10} {txOk : Bool} (h9 : s.idx ≠ 9#4) :
    s.stored w h txOk = { s with smp := w, batch := s.batch.set s.idx.toNat w h, idx := s.idx + 1#4 } := by
  simp only [State.stored, h9, if_false, false_and]

theorem idx_succ_eq_batchN_iff (idx : BitVec 4) : idx.toNat + 1 = batchN ↔ idx = 9#4 := by
  rw [batchN]
  constructor <;> intro h <;> bv_omega

/-- SIGN_EXT, EMIT, and SEND where the batch is full. -/
theorem runsTo_store {d0 d1 d2 : Draws} (hst : s.st = Ctrl.signExt) (hf : s.fault = none) (h : s.idx.toNat < 10) :
    RunsTo ([.block d0, .block d1] ++ if s.idx.toNat + 1 = batchN then [.block d2] else [])
      s { s.stored s.acc.sext24 h d2.txOk with st := Ctrl.stbRise } := by
  have hemit : RunsTo [.block d0, .block d1] s { s with
      smp := s.acc.sext24, batch := s.batch.set s.idx.toNat s.acc.sext24 h, idx := s.idx + 1#4
      st := if s.idx.toNat + 1 = batchN then Ctrl.send else Ctrl.stbRise } :=
    .cons (runsTo_signExt hst hf) fun dly d k =>
      runsTo_emit (s := { s with smp := s.acc.sext24, st := Ctrl.emit, dly := dly, draws := d, tick := k }) rfl hf h
  refine hemit.append fun dly d k => ?_
  by_cases h9 : s.idx = 9#4
  · have hfull : (s.idx + 1#4).toNat = batchN := by rw [h9]; rfl
    simp only [State.stored_of_tenth h9, if_pos ((idx_succ_eq_batchN_iff s.idx).mpr h9)]
    exact runsTo_send (s := { s with
      smp := s.acc.sext24, batch := s.batch.set s.idx.toNat s.acc.sext24 h, idx := s.idx + 1#4, st := Ctrl.send
      dly := dly, draws := d, tick := k }) rfl hf hfull
  · simp only [State.stored_of_not_tenth h9, if_neg (mt (idx_succ_eq_batchN_iff s.idx).mp h9)]
    exact .refl _

end Sys2Proof.Machine
end

section
/-!
PROOFS. The moves of an `acquire` line (`spec/30_encoding.md` rules R89 and R92), part by part, and the two statements about whole
acquisitions: one that stores its sample, and one that finds the start line high.
-/

namespace Sys2Proof.Machine

/-! ## The word that 24 bits make (rule R89) -/

/-- The shift register after these bits, first bit first. -/
def shiftBits (acc : Word) (bs : List Bool) : Word := bs.foldl (fun a b => a.shl32 1 ||| Word.ofBit b) acc

theorem getLsbD_shl32_or_ofBit (w : Word) (b : Bool) {i : Nat} (hi : i < 32) :
    (w.shl32 1 ||| Word.ofBit b).getLsbD i = if i = 0 then b else w.getLsbD (i - 1) := by
  cases i with
  | zero => cases b <;> simp [Word.ofBit, Word.shl32]
  | succ i =>
    have hi' : i < 32 := by omega
    cases b <;> simp [Word.ofBit, Word.shl32, hi, BitVec.getLsbD_eq_getElem hi']

/-- The last bit shifted in is bit 0, the one before it bit 1, and so on. -/
theorem shiftBits_getLsbD (rs : List Bool) :
    ∀ {i : Nat}, i < 32 → (shiftBits 0#32 rs.reverse).getLsbD i = rs.getD i false := by
  induction rs with
  | nil => simp [shiftBits]
  | cons b rs ih =>
    intro i hi
    rw [List.reverse_cons, shiftBits, List.foldl_append, List.foldl_cons, List.foldl_nil, getLsbD_shl32_or_ofBit _ _ hi]
    cases i with
    | zero => simp
    | succ i => simpa [shiftBits] using ih (show i < 32 by omega)

theorem shiftBits_dataBits (v : BitVec 24) : shiftBits 0#32 (dataBits v) = v.setWidth 32 := by
  have hrev : dataBits v = ((List.range nbits).map v.getLsbD).reverse := rfl
  refine BitVec.eq_of_getLsbD_eq fun i hi => ?_
  rw [hrev, shiftBits_getLsbD _ hi, BitVec.getLsbD_setWidth]
  by_cases h : i < 24
  · simp [h, hi]
  · simp [h, hi, BitVec.getLsbD_of_ge v i (by omega)]

theorem sext24_setWidth (v : BitVec 24) : Word.sext24 (v.setWidth 32) = v.signExtend 32 :=
  congrArg (·.signExtend 32) ((BitVec.setWidth_setWidth_of_le v (by decide)).trans (BitVec.setWidth_eq v))

/-! ## The pulses of a word -/

theorem setPin_bit_self (p : Word) {b : Nat} (hb : b < 32) (level : Bool) : (setPin p b level).bit b = level := by
  rw [setPin_bit p level hb, if_pos rfl]

theorem replicate_stepMove (k : Nat) (pins : Word) :
    List.replicate k (stepMove pins) = (List.replicate k (⟨pins, true, true⟩ : Draws)).map .block :=
  (List.map_replicate (f := Move.block)).symm

variable {s : State}

theorem runsTo_pulseMoves {pins : Word} {b : Bool} {c : Ctrl} (hst : s.st = Ctrl.clkRise) (hf : s.fault = none)
    (hlow : s.out &&& ~~~s.clkMask = s.out) (hc : afterLo (s.n + 1#5) = .ok c) :
    RunsTo (pulseMoves s.cfg.val pins b) s { s with
      acc := s.acc.shl32 1 ||| Word.ofBit b, n := s.n + 1#5, st := c } := by
  have hpulse := runsTo_pulse (dRise := ⟨pins, true, true⟩) (dShift := ⟨setPin pins s.cfg.val.dataBit b, true, true⟩)
    (dFall := ⟨setPin pins s.cfg.val.dataBit b, true, true⟩) hst hf hlow
    (List.length_replicate (a := ⟨pins, true, true⟩))
    (List.length_replicate (a := ⟨setPin pins s.cfg.val.dataBit b, true, true⟩)) hc
  rwa [← replicate_stepMove, ← replicate_stepMove, setPin_bit_self _ (Config.dataBit_lt s.cfg)] at hpulse

theorem afterLo_of_lt {n : BitVec 5} (h : n.toNat < 24) : afterLo n = .ok Ctrl.clkRise := by
  rcases afterLo_cases n with ⟨hn, -⟩ | ⟨-, e⟩ | ⟨hn, -⟩
  · omega
  · exact e
  · omega

theorem exists_afterLo {n : BitVec 5} (h : n.toNat ≤ 24) : ∃ c, afterLo n = .ok c := by
  cases hn : afterLo n with
  | ok c => exact ⟨c, rfl⟩
  | error r => exact absurd hn (afterLo_ne_error h r)

/-- The pulses of the bits that are still missing, in a state that the bit counter has chosen by `after_lo()`, by induction on
these bits. -/
theorem runsTo_pulsesMoves {bs : List Bool} {pins : Word} (hn : s.n.toNat + bs.length = 24)
    (hst : afterLo s.n = .ok s.st) (hf : s.fault = none) (hlow : s.out &&& ~~~s.clkMask = s.out) :
    RunsTo (pulsesMoves s.cfg.val pins bs) s { s with acc := shiftBits s.acc bs, n := 24#5, st := Ctrl.signExt } := by
  induction bs generalizing s pins with
  | nil =>
    obtain hn : s.n = 24#5 := BitVec.eq_of_toNat_eq hn
    have hst : s.st = Ctrl.signExt := by
      rw [hn] at hst
      exact (Except.ok.inj hst).symm
    rw [← hn, ← hst]
    exact .refl s
  | cons b bs ih =>
    rw [List.length_cons] at hn
    have hsucc : (s.n + 1#5).toNat = s.n.toNat + 1 := by bv_omega
    have hlen : (s.n + 1#5).toNat + bs.length = 24 := by omega
    obtain ⟨c, hc⟩ := exists_afterLo (n := s.n + 1#5) (by omega)
    have hst : s.st = Ctrl.clkRise := Except.ok.inj (hst.symm.trans (afterLo_of_lt (by omega)))
    exact (runsTo_pulseMoves hst hf hlow hc).append fun dly d k =>
      ih (s := { s with acc := _, n := s.n + 1#5, st := c, dly := dly, draws := d, tick := k }) hlen hc hf hlow

theorem runsTo_word {v : BitVec 24} {pins : Word} (hst : s.st = Ctrl.clkRise) (hf : s.fault = none)
    (hlow : s.out &&& ~~~s.clkMask = s.out) (hacc : s.acc = 0#32) (hn : s.n = 0#5) :
    RunsTo (pulsesMoves s.cfg.val pins (dataBits v)) s { s with
      acc := v.setWidth 32, n := 24#5, st := Ctrl.signExt } := by
  rw [← shiftBits_dataBits, ← hacc]
  exact runsTo_pulsesMoves (by rw [hn]; rfl) (by rw [hn, hst]; rfl) hf hlow

/-! ## The steps before and after the pulses -/

theorem runsTo_trigger (hst : s.st = Ctrl.edgePoll) (hf : s.fault = none) :
    RunsTo [stepMove s.togglePins, stepMove s.togglePins] s { s with
      prev := !s.prev, out := s.out &&& ~~~s.clkMask, st := Ctrl.startTest } :=
  .cons (runsTo_edgePoll hst hf (setPin_bit_self _ (Config.ctrlBit_lt s.cfg) _)) fun _ _ _ => runsTo_clkIdleLow rfl hf

theorem runsTo_finishMoves {pins : Word} {txOk : Bool} (hst : s.st = Ctrl.signExt) (hf : s.fault = none)
    (h : s.idx.toNat < 10) :
    RunsTo (finishMoves s.cfg.val pins (decide (s.idx.toNat + 1 = batchN)) txOk) s
      { s.stored s.acc.sext24 h txOk with out := s.out &&& ~~~s.stbMask, st := Ctrl.edgePoll } := by
  have hstore := runsTo_store (d0 := ⟨pins, true, true⟩) (d1 := ⟨pins, true, true⟩) (d2 := ⟨pins, true, txOk⟩) hst hf h
  simp only [finishMoves, decide_eq_true_eq, replicate_stepMove]
  rw [List.append_assoc]
  exact hstore.append fun _ _ _ => runsTo_strobe rfl hf List.length_replicate

/-! ## The moves of `acquire` -/

/-- The pin word at the START_TEST of an `acquire` (rule R92, item 3). -/
def State.startPins (s : State) (level : Bool) : Word := setPin s.togglePins s.cfg.val.startBit level

theorem State.startPins_startBit (s : State) (level : Bool) : (s.startPins level).bit s.cfg.val.startBit = level :=
  setPin_bit_self _ (Config.startBit_lt s.cfg) _

theorem State.acquireMoves_nostart (v : BitVec 24) :
    s.acquireMoves v .nostart = [stepMove s.togglePins, stepMove s.togglePins] ++ [stepMove (s.startPins true)] := rfl

theorem State.acquireMoves_of_ne_nostart {v : BitVec 24} {mode : AcquireMode} (hmode : mode ≠ .nostart) :
    s.acquireMoves v mode = [stepMove s.togglePins, stepMove s.togglePins] ++ stepMove (s.startPins false) ::
      (pulsesMoves s.cfg.val (s.startPins false) (dataBits v) ++
        finishMoves s.cfg.val (pulsesPins s.cfg.val (s.startPins false) (dataBits v)) (decide (s.idx.toNat + 1 = batchN))
          (mode != .txFail)) := by
  cases mode with
  | nostart => exact absurd rfl hmode
  | full | txFail => rfl

theorem runsTo_acquireMoves_nostart (hst : s.st = Ctrl.edgePoll) (hf : s.fault = none) (v : BitVec 24) :
    RunsTo (s.acquireMoves v .nostart) s { s with
      prev := !s.prev, out := s.out &&& ~~~s.clkMask, st := Ctrl.edgePoll } := by
  rw [State.acquireMoves_nostart]
  exact (runsTo_trigger hst hf).append fun _ _ _ => runsTo_startTest_high rfl hf (s.startPins_startBit true)

/-- The state after an acquisition of `v` from EDGE_POLL. -/
def State.acquired (s : State) (v : BitVec 24) (h : s.idx.toNat < 10) (txOk : Bool) : State :=
  { s.stored (v.signExtend 32) h txOk with
    prev := !s.prev
    n := 24#5
    acc := v.setWidth 32
    out := s.out &&& ~~~s.clkMask &&& ~~~s.stbMask
    st := Ctrl.edgePoll }

theorem runsTo_acquireMoves {v : BitVec 24} {mode : AcquireMode} (hmode : mode ≠ .nostart) (hst : s.st = Ctrl.edgePoll)
    (hf : s.fault = none) (h : s.idx.toNat < 10) :
    RunsTo (s.acquireMoves v mode) s (s.acquired v h (mode != .txFail)) := by
  rw [State.acquireMoves_of_ne_nostart hmode, State.acquired, ← sext24_setWidth]
  refine .append (runsTo_trigger hst hf) fun _ _ _ => ?_
  refine .cons (runsTo_startTest_low rfl hf (s.startPins_startBit false)) fun dly d k => ?_
  refine .append (runsTo_word (s := { s with
    prev := !s.prev, out := s.out &&& ~~~s.clkMask, acc := 0#32, n := 0#5, st := Ctrl.clkRise
    dly := dly, draws := d, tick := k }) rfl hf (and_and_self_right _ _) rfl rfl) fun dly d k => ?_
  exact runsTo_finishMoves (s := { s with
    prev := !s.prev, out := s.out &&& ~~~s.clkMask, acc := v.setWidth 32, n := 24#5, st := Ctrl.signExt
    dly := dly, draws := d, tick := k }) rfl hf h

/-- Settles O56: the moves lead to `State.acquired`, which has these registers. -/
theorem acquisitionStoresTheSignExtendedValue : Obligations.AcquisitionStoresTheSignExtendedValue := by
  intro s v h hst hf
  obtain ⟨dly, d, k, hrun⟩ := runsTo_acquireMoves (v := v) (mode := .full) nofun hst hf h
  refine ⟨_, hrun.runMoves_eq, rfl, hf, rfl, rfl, rfl, rfl, rfl, rfl, ?_, rfl, rfl, rfl, rfl, rfl, rfl, rfl⟩
  simp [State.acquired, State.stored]

/-- Settles O59: the third step finds the start line high and goes back to EDGE_POLL. -/
theorem transitionWithStartHighStoresNothing : Obligations.TransitionWithStartHighStoresNothing := by
  intro s v hst hf
  obtain ⟨dly, d, k, hrun⟩ := runsTo_acquireMoves_nostart hst hf v
  exact ⟨rfl, _, hrun.runMoves_eq, rfl, rfl, rfl, rfl, rfl, rfl⟩

end Sys2Proof.Machine
end

section
/-!
PROOFS. Which operation a move performs, and that it gives a next state (`spec/40_step_and_latch.md` rules R110, R111 and R117).
-/

namespace Sys2Proof.Machine

/-- No operation stops or is refused: a raised fault is a next state too. -/
theorem exists_exec_eq_next (i : Instr) (s : State) : ∃ t, exec i s = .next t := by
  cases i <;> exact ⟨_, rfl⟩

theorem decodeHostEv3_of_encode {i : Instr} {c : BitVec 3} {args : HostArgs} (h : encode i = .hostEv3 c args) :
    decodeHostEv3 c args = .ok i := by
  rw [← decode_encode i, h, decode]

theorem hostMove_of_encode {i : Instr} {c : BitVec 3} {args : HostArgs} (h : encode i = .hostEv3 c args) (s : State) :
    hostMove c args s = exec i s := by
  rw [hostMove, decodeHostEv3_of_encode h]

/-- With no script left the next move is the environment's (log entry 8). -/
theorem step_of_script_nil {s : State} (h : s.script = []) : step s = step { s with script := [envMove s.tick] } := by
  simp [step, State.nextMove, State.taken, h]

/-- Settles O5: the next move is the head of the script or the environment's, and it performs the operation with its code. -/
theorem stepRunsTheDecodedOperation : Obligations.StepRunsTheDecodedOperation := by
  refine ⟨fun s d ms i hscript hf hdec => ?_, fun s c args ms i hscript hdec => ?_, fun s => step_of_script_nil⟩
  · rw [step_of_script s _ ms hscript]
    exact blockStep_of_encode (s := { s with script := ms, tick := s.tick + 1 }) (encode_of_decode hdec) hf d
  · rw [step_of_script s _ ms hscript]
    exact hostMove_of_encode (encode_of_decode hdec) _

/-- Settles O8: the step performs the operation that `st` names, or raises `IllegalState`. -/
theorem unfaultedBlockAlwaysHasAStep : Obligations.UnfaultedBlockAlwaysHasAStep := by
  intro s d hf
  rw [runMove]
  cases hdec : decodeState5 s.st with
  | ok i =>
    rw [blockStep_of_encode (encode_of_decodeState5 hdec) hf]
    exact exists_exec_eq_next i _
  | error e => exact ⟨_, blockStep_of_reserved (reserved_of_decodeState5 hdec) hf d⟩

end Sys2Proof.Machine
end

section
/-!
PROOFS. The two latches: what the input snapshot shows (`spec/40_step_and_latch.md` rule R112), and which bits of `OUT` a step
can write (rule R113, `spec/70_reset_and_hazards.md` rule R275).
-/

namespace Sys2Proof.Machine

/-- Settles O40: the snapshot is composed of the pins and the kick latch. -/
theorem snapshotShowsKickAndPins : Obligations.SnapshotShowsKickAndPins := fun _ _ hb => compose_bit _ _ _ hb

variable {s t : State} {i : Instr} {b m : Nat}

theorem State.setOut_bit_of_ne (s : State) (hb : b < 32) (hne : b ≠ m) :
    (s.setOut (Word.mask m)).out.bit b = s.out.bit b := by
  rw [s.setOut_bit hb, decide_eq_false hne, Bool.or_false]

theorem State.clrOut_bit_of_ne (s : State) (hb : b < 32) (hne : b ≠ m) :
    (s.clrOut (Word.mask m)).out.bit b = s.out.bit b := by
  rw [s.clrOut_bit hb, decide_eq_false hne, Bool.not_false, Bool.and_true]

theorem Effect.out_bit_of_ne (he : Effect s i t) (hi : i ≠ .hReset) (hb : b < 32) (hclk : b ≠ s.cfg.val.clkBit)
    (hstb : b ≠ s.cfg.val.stbBit) : t.out.bit b = s.out.bit b := by
  cases he with
  | clkRise => exact s.setOut_bit_of_ne hb hclk
  | clkIdleLow | clkFallHold | clkFallLeave => exact s.clrOut_bit_of_ne hb hclk
  | stbRiseHold | stbRiseLeave => exact s.setOut_bit_of_ne hb hstb
  | stbFall => exact s.clrOut_bit_of_ne hb hstb
  | hReset => exact absurd rfl hi
  | _ => rfl

/-- Settles O41: a step performs one operation or raises a fault, and an operation other than H_RESET drives no other bit. -/
theorem onlyClkAndStbAreWritten : Obligations.OnlyClkAndStbAreWritten := by
  intro s t h hreset b hb hclk hstb
  rcases step_cases h with ⟨d, i, -, -, hcode, he⟩ | ⟨d, -, -, -, rfl⟩ | ⟨c, args, i, hmove, hcode, he⟩
  · have hi : i ≠ .hReset := by rintro rfl; cases hcode
    exact he.out_bit_of_ne hi hb hclk hstb
  · rfl
  · have hi : i ≠ .hReset := by rintro rfl; cases hcode; exact hreset hmove
    exact he.out_bit_of_ne hi hb hclk hstb

end Sys2Proof.Machine
end

section
/-!
PROOFS. What an operation does not depend on (`spec/40_step_and_latch.md` rule R112, `spec/60_exceptions.md` rule R243): a change
of the draws, the kick latch or the host status that an operation does not notice is still there after it, and nothing else
differs.
-/

namespace Sys2Proof.Machine

/-! ## Changes of the inputs -/

/-- A change of the inputs that an operation may read: the draws, the kick latch and the host status. -/
structure InputChange where
  draws : Draws → Draws := id
  kick : Bool → Bool := id
  hostStatus : Byte → Byte := id

/-- The state with its inputs changed. -/
def State.change (s : State) (c : InputChange) : State :=
  { s with draws := c.draws s.draws, kick := c.kick s.kick, hostStatus := c.hostStatus s.hostStatus }

theorem State.change_rxq (s : State) (c : InputChange) : (s.change c).rxq = s.rxq := rfl
theorem State.change_txq (s : State) (c : InputChange) : (s.change c).txq = s.txq := rfl

/-- The operation `i` does not notice the change `c` in the state `s`: whatever input `i` reads shows the same, and whatever
`i` writes to the kick latch or the host status is not changed by `c`. -/
structure Unnoticed (c : InputChange) (i : Instr) (s : State) : Prop where
  ready : i = .hsWait → (s.change c).driverReady = s.driverReady
  annOk : i = .hsAnn0 ∨ i = .hsAnn1 → (s.change c).draws.annOk = s.draws.annOk
  inKick : i = .kickPoll → (s.change c).inKick = s.inKick
  inCtrl : i = .edgePoll → (s.change c).inCtrl = s.inCtrl
  inStart : i = .startTest → (s.change c).inStart = s.inStart
  inData : i = .shiftIn → (s.change c).inData = s.inData
  txOk : i = .send → (s.change c).draws.txOk = s.draws.txOk
  kick : i = .kickClr ∨ i = .hKick ∨ i = .hReset → ∀ k, c.kick k = k
  hostStatus : ∀ v, i = .hStatus v → c.hostStatus v = v

variable {c : InputChange} {i : Instr} {s t : State}

theorem State.moveTo_change (s : State) (c : InputChange) (next : Except Fault Ctrl) {w : State → State}
    (hw : w (s.change c) = (w s).change c) : (s.change c).moveTo next w = (s.moveTo next w).change c := by
  cases next with
  | ok st => exact congrArg (State.goto · st) hw
  | error r => rfl

/-- An operation carries along a change that it does not notice. -/
theorem exec_change (hc : Unnoticed c i s) (h : exec i s = .next t) : exec i (s.change c) = .next (t.change c) := by
  cases i <;> obtain rfl := Host.Outcome.next.inj h
  case hsWait =>
    rw [exec, execHsWait, hc.ready rfl]
    rfl
  case hsAnn0 =>
    rw [exec, execHsAnn0, hc.annOk (.inl rfl)]
    rfl
  case hsAnn1 =>
    rw [exec, execHsAnn1, hc.annOk (.inr rfl)]
    rfl
  case kickPoll =>
    rw [exec, execKickPoll, hc.inKick rfl]
    rfl
  case kickClr =>
    exact congrArg (fun k => Host.Outcome.next { s.change c with kick := k, st := Ctrl.drain }) (hc.kick (.inl rfl) _).symm
  case drain =>
    rw [exec, execDrain, State.change_rxq]
    cases s.rxq <;> rfl
  case edgePoll =>
    rw [exec, execEdgePoll, State.observeCtrl, State.edge, hc.inCtrl rfl]
    rfl
  case startTest =>
    rw [exec, execStartTest, hc.inStart rfl]
    cases s.inStart <;> rfl
  case shiftIn =>
    rw [exec, execShiftIn, hc.inData rfl]
    rfl
  case emit =>
    rw [apply_dite (State.change · c)]
    rfl
  case send =>
    rw [exec, execSend, State.txAccepts, hc.txOk rfl, apply_ite (State.change · c)]
    rfl
  case clkRise | holdHi | clkFall | holdLo | stbRise | holdStb =>
    exact congrArg Host.Outcome.next (s.moveTo_change c _ rfl)
  case hStatus v =>
    exact congrArg (fun w => Host.Outcome.next { s.change c with hostStatus := w }) (hc.hostStatus v rfl).symm
  case hKick =>
    exact congrArg (fun k => Host.Outcome.next { s.change c with kick := k }) (hc.kick (.inr (.inl rfl)) _).symm
  case hPush =>
    rw [apply_ite (State.change · c)]
    rfl
  case hPop =>
    rw [exec, execHPop, State.change_txq]
    cases s.txq <;> rfl
  case hReset =>
    exact congrArg (fun k => Host.Outcome.next { (s.change c).resetBlock (Config.resetDraw s.tick) with kick := k })
      (hc.kick (.inr (.inr rfl)) _).symm
  all_goals rfl

theorem Unnoticed.exists_exec (hc : Unnoticed c i s) :
    ∃ t, exec i s = .next t ∧ exec i (s.change c) = .next (t.change c) := by
  obtain ⟨t, ht⟩ := exists_exec_eq_next i s
  exact ⟨t, ht, exec_change hc ht⟩

/-! ## The changes that an operation does not notice -/

/-- The pin at `KICK_BIT` is not in the snapshot (rule R112). -/
theorem compose_setPin (kickBit : Nat) (pins : Word) (level kick : Bool) :
    compose kickBit (setPin pins kickBit level) kick = compose kickBit pins kick := by
  refine BitVec.eq_of_getLsbD_eq fun b hb => ?_
  have hbit : (compose kickBit (setPin pins kickBit level) kick).bit b = (compose kickBit pins kick).bit b := by
    rw [compose_bit _ _ _ hb, compose_bit _ _ _ hb, setPin_bit _ _ hb]
    by_cases h : b = kickBit
    · rw [if_pos h, if_pos h]
    · rw [if_neg h, if_neg h, if_neg h]
  exact hbit

theorem unnoticed_kickPin (i : Instr) (s : State) (level : Bool) :
    Unnoticed { draws := fun _ => { s.draws with pins := setPin s.draws.pins s.cfg.val.kickBit level } } i s :=
  have hlatch := compose_setPin s.cfg.val.kickBit s.draws.pins level s.kick
  { ready := fun _ => rfl
    annOk := fun _ => rfl
    inKick := fun _ => congrArg (Word.bit · s.cfg.val.kickBit) hlatch
    inCtrl := fun _ => congrArg (Word.bit · s.cfg.val.ctrlBit) hlatch
    inStart := fun _ => congrArg (Word.bit · s.cfg.val.startBit) hlatch
    inData := fun _ => congrArg (Word.bit · s.cfg.val.dataBit) hlatch
    txOk := fun _ => rfl
    kick := fun _ _ => rfl
    hostStatus := fun _ _ => rfl }

/-- The other bits of the snapshot that operations read are pins, not the latch (rule R8, `kick_distinct`). -/
theorem unnoticed_kick (s : State) (k : Bool) (hpoll : i ≠ .kickPoll) (hclr : i ≠ .kickClr) (hkick : i ≠ .hKick)
    (hreset : i ≠ .hReset) : Unnoticed { kick := fun _ => k } i s where
  ready _ := rfl
  annOk _ := rfl
  inKick h := absurd h hpoll
  inCtrl _ := (State.inCtrl_eq_pin _).trans s.inCtrl_eq_pin.symm
  inStart _ := (State.inStart_eq_pin _).trans s.inStart_eq_pin.symm
  inData _ := (State.inData_eq_pin _).trans s.inData_eq_pin.symm
  txOk _ := rfl
  kick h := by simp [hclr, hkick, hreset] at h
  hostStatus _ _ := rfl

theorem unnoticed_hostStatus (s : State) (v : Byte) (hwait : i ≠ .hsWait) (hstatus : ∀ w, i ≠ .hStatus w) :
    Unnoticed { hostStatus := fun _ => v } i s where
  ready h := absurd h hwait
  annOk _ := rfl
  inKick _ := rfl
  inCtrl _ := rfl
  inStart _ := rfl
  inData _ := rfl
  txOk _ := rfl
  kick _ _ := rfl
  hostStatus w h := absurd h (hstatus w)

/-- Settles O46: none of the three changes is noticed. -/
theorem kickAndStatusReachOnlyTheirOperations : Obligations.KickAndStatusReachOnlyTheirOperations := by
  refine fun i s => ⟨fun level => ?_, fun k hpoll hclr hkick hreset => ?_, fun v hwait hstatus => ?_⟩
  · obtain ⟨t, ht, ht'⟩ := (unnoticed_kickPin i s level).exists_exec
    exact ⟨t, ht, ht'⟩
  · exact (unnoticed_kick s k hpoll hclr hkick hreset).exists_exec
  · exact (unnoticed_hostStatus s v hwait hstatus).exists_exec

end Sys2Proof.Machine
end

section
/-!
PROOFS. A pending kick (`spec/42_kick_detector.md` rules R140 and R142): host moves other than a reset leave it pending, and the
next block step, which under a fair schedule comes (`spec/40_step_and_latch.md` rule R117), sees it.
-/

namespace Sys2Proof.Machine

/-- A kick is pending in a block that polls for it. -/
structure State.KickPending (s : State) : Prop where
  polls : s.st = Ctrl.kickPoll
  kick : s.kick = true
  noFault : s.fault = none

theorem exists_encode_of_hostEventExists {c : BitVec 3} {args : HostArgs} (h : hostEventExists c args = true) :
    ∃ i, encode i = .hostEv3 c args := by
  cases args with
  | none =>
    simp only [hostEventExists, Bool.or_eq_true, decide_eq_true_eq] at h
    obtain (hc | hc) | hc := h
    · obtain rfl : c = 1#3 := BitVec.eq_of_toNat_eq hc
      exact ⟨.hKick, rfl⟩
    · obtain rfl : c = 3#3 := BitVec.eq_of_toNat_eq hc
      exact ⟨.hPop, rfl⟩
    · obtain rfl : c = 4#3 := BitVec.eq_of_toNat_eq hc
      exact ⟨.hReset, rfl⟩
  | status v =>
    obtain rfl : c = 0#3 := BitVec.eq_of_toNat_eq (of_decide_eq_true h)
    exact ⟨.hStatus v, rfl⟩
  | message src dst p =>
    obtain rfl : c = 2#3 := BitVec.eq_of_toNat_eq (of_decide_eq_true h)
    exact ⟨.hPush src dst p, rfl⟩

variable {s t : State}

theorem State.inKick_eq_kick (s : State) : s.inKick = s.kick := by
  have hb : s.cfg.val.kickBit < 32 := by
    have := Config.bits s.cfg
    omega
  rw [State.inKick, State.inLatch, compose_bit _ _ _ hb, if_pos rfl]

/-- The host's actions but H_RESET write neither `st` nor the fault record, and none of them clears the latch (rules R220 to
R223). -/
theorem Effect.keeps_kickPending {i : Instr} {c : BitVec 3} {args : HostArgs} (he : Effect s i t)
    (hcode : encode i = .hostEv3 c args) (hi : i ≠ .hReset) (hs : s.KickPending) : t.KickPending := by
  cases he with
  | hStatus | hPushRoom | hPopHead => exact { hs with }
  | hPushFull | hPopEmpty => exact hs
  | hKick => exact { hs with kick := rfl }
  | hReset => exact absurd rfl hi
  | _ => cases hcode

theorem exists_hostMove_of_kickPending {c : BitVec 3} {args : HostArgs} (hexists : hostEventExists c args = true)
    (hreset : Move.host c args ≠ .host 4#3 .none) (hs : s.KickPending) :
    ∃ t, runMove (.host c args) s = .next t ∧ t.KickPending := by
  obtain ⟨i, hcode⟩ := exists_encode_of_hostEventExists hexists
  obtain ⟨t, ht⟩ := exists_exec_eq_next i s
  have hi : i ≠ .hReset := by
    rintro rfl
    cases hcode
    exact hreset rfl
  exact ⟨t, (hostMove_of_encode hcode s).trans ht, (exec_effect ht).keeps_kickPending hcode hi hs⟩

theorem exists_runs_of_kickPending {ms : List Move}
    (hms : ∀ m ∈ ms, m.wellFormed = true ∧ m ≠ .host 4#3 .none ∧ ∀ d, m ≠ .block d) (hs : s.KickPending) :
    ∃ t, Runs ms s t ∧ t.KickPending := by
  induction ms generalizing s with
  | nil => exact ⟨s, .nil s, hs⟩
  | cons m ms ih =>
    obtain ⟨⟨hwf, hreset, hhost⟩, htail⟩ := List.forall_mem_cons.mp hms
    cases m with
    | block d => exact absurd rfl (hhost d)
    | host c args =>
      obtain ⟨t, hmove, ht⟩ := exists_hostMove_of_kickPending (s := { s with tick := s.tick + 1 }) hwf hreset { hs with }
      obtain ⟨u, hrest, hu⟩ := ih htail ht
      exact ⟨u, .cons hmove hrest, hu⟩

/-- The block step of KICK_POLL sees a pending kick (rule R142). -/
theorem State.KickPending.exists_runs_block (hs : s.KickPending) (d : Draws) :
    ∃ t, Runs [.block d] s t ∧ t.st = Ctrl.kickClr := by
  have hcode : encode .kickPoll = .state5 s.st := by rw [hs.polls, encode]
  refine ⟨_, .cons (blockStep_of_encode (s := { s with tick := s.tick + 1 }) hcode hs.noFault d) (.nil _), ?_⟩
  rw [State.goto_st, State.inKick_eq_kick]
  exact if_pos hs.kick

theorem firstMoves_succ (sched : Nat → Move) (k : Nat) : firstMoves sched (k + 1) = firstMoves sched k ++ [sched k] := by
  rw [firstMoves, List.range_succ, List.map_append]
  rfl

/-- Settles O17: the kick stays pending until the first block step of the schedule, which sees it. -/
theorem pendingKickIsSeenUnderFairness : Obligations.PendingKickIsSeenUnderFairness := by
  intro s sched hst hkick hf hfair hsched
  classical
  have hblock : ∃ j d, sched j = .block d := by
    obtain ⟨j, -, hj⟩ := hfair 0
    exact ⟨j, hj⟩
  obtain ⟨d, hd⟩ := Nat.find_spec hblock
  have hfirst : ∀ m ∈ firstMoves sched (Nat.find hblock),
      m.wellFormed = true ∧ m ≠ .host 4#3 .none ∧ ∀ d, m ≠ .block d := by
    intro m hm
    obtain ⟨k, hk, rfl⟩ := List.mem_map.mp hm
    obtain ⟨hwf, hreset⟩ := hsched k
    exact ⟨hwf, hreset, fun d h => Nat.find_min hblock (List.mem_range.mp hk) ⟨d, h⟩⟩
  obtain ⟨t, hbefore, ht⟩ := exists_runs_of_kickPending hfirst ⟨hst, hkick, hf⟩
  obtain ⟨u, hsees, hu⟩ := ht.exists_runs_block d
  refine ⟨Nat.find hblock + 1, u, ?_, hu⟩
  rw [firstMoves_succ, hd]
  exact (hbefore.append hsees).runMoves_eq

end Sys2Proof.Machine
end

section
/-!
PROOFS. The bring-up states (`spec/41_link_bringup.md`): HS_WAIT, HS_ANN0 and HS_ANN1 write the control state alone, and only a
reset returns to them.
-/

namespace Sys2Proof.Machine

/-- Settles O9: HS_WAIT is one write of the control state, chosen by the driver-ready bit. -/
theorem hsWaitFollowsTheReadyBit : Obligations.HsWaitFollowsTheReadyBit := fun _ => rfl

/-- Settles O10: each announcement is one write of the control state, chosen by the draw. -/
theorem announcementsRetryUntilAccepted : Obligations.AnnouncementsRetryUntilAccepted := fun _ => ⟨rfl, rfl⟩

/-- The successors at the end of a bit lie in Sampling. -/
theorem edgePoll_le_of_afterLo {n : BitVec 5} {c : Ctrl} (h : afterLo n = .ok c) : Ctrl.edgePoll.toNat ≤ c.toNat := by
  rcases afterLo_cases n with ⟨-, e⟩ | ⟨-, e⟩ | ⟨-, e⟩ <;> cases e.symm.trans h <;> decide

/-- An operation other than H_RESET keeps the control state past HS_ANN1: the bring-up operations are not performed there, and
the others keep `st` or write a later state to it. -/
theorem Effect.keeps_past_bringUp {s t : State} {i : Instr} (he : Effect s i t) (hi : i ≠ .hReset)
    (hst : ∀ c, encode i = .state5 c → s.st = c) (hs : 0x03 ≤ s.st.toNat) : 0x03 ≤ t.st.toNat := by
  cases he with
  | hsWait | hsAnn0 | hsAnn1 =>
    rw [hst _ rfl] at hs
    exact absurd hs (by decide)
  | kickPoll | edgePoll | emit =>
    rw [State.goto_st]
    split <;> decide
  | clkFallLeave _ hc | holdLoLeave _ hc => exact le_trans (by decide) (edgePoll_le_of_afterLo hc)
  | clkFallFault | holdLoFault | emitFault | sendFault => exact hs
  | hStatus | hKick | hPushRoom | hPushFull | hPopHead | hPopEmpty => exact hs
  | hReset => exact absurd rfl hi
  | _ => simp

/-- Settles O11: a step performs one operation, which is H_RESET only where the next move is a reset, or raises a fault, which
leaves the control state as it is. -/
theorem bringUpIsNotEnteredAgain : Obligations.BringUpIsNotEnteredAgain := by
  intro s t hs h
  rcases step_cases h with ⟨d, i, -, -, hcode, he⟩ | ⟨d, -, -, -, rfl⟩ | ⟨c, args, i, hmove, hcode, he⟩
  · have hi : i ≠ .hReset := by rintro rfl; cases hcode
    exact .inl (he.keeps_past_bringUp hi (fun _ hc => Code.state5.inj (hcode.symm.trans hc)) hs)
  · exact .inl hs
  · by_cases hi : i = .hReset
    · subst hi
      cases hcode
      exact .inr hmove
    · exact .inl (he.keeps_past_bringUp hi (fun _ hc => nomatch hcode.symm.trans hc) hs)

end Sys2Proof.Machine
end

section
/-!
PROOFS. The inbound queue under an operation (`spec/42_kick_detector.md` rule R146, `spec/45_host_environment.md` rule R222): only
DRAIN takes a message off it, so outside DRAIN it grows at the end, by at most one message.
-/

namespace Sys2Proof.Machine

variable {s t : State} {i : Instr}

theorem Effect.rxq_eq_or_append (he : Effect s i t) (hdrain : i ≠ .drain) :
    t.rxq = s.rxq ∨ ∃ m, t.rxq = s.rxq ++ [m] := by
  cases he with
  | drainHead | drainEmpty => exact absurd rfl hdrain
  | hPushRoom => exact .inr ⟨_, rfl⟩
  | _ => exact .inl rfl

theorem Effect.rxq_isPrefix (he : Effect s i t) (hdrain : i ≠ .drain) : s.rxq <+: t.rxq := by
  rcases he.rxq_eq_or_append hdrain with h | ⟨m, h⟩
  · exact ⟨[], s.rxq.append_nil.trans h.symm⟩
  · exact ⟨[m], h.symm⟩

/-- The endpoints are recorded by DRAIN and drawn by H_RESET, and written by nothing else (rule R29). -/
theorem Effect.keeps_endpoints (he : Effect s i t) (hdrain : i ≠ .drain) (hreset : i ≠ .hReset) :
    t.recSrc = s.recSrc ∧ t.recDst = s.recDst := by
  cases he with
  | drainHead | drainEmpty => exact absurd rfl hdrain
  | hReset => exact absurd rfl hreset
  | _ => exact ⟨rfl, rfl⟩

/-- Settles O54: in Sampling a block step performs another operation than DRAIN, and a fault or a host action takes nothing off
RXQ. -/
theorem samplingDrainsNothing : Obligations.SamplingDrainsNothing := by
  intro s t hs h hreset
  rcases step_cases h with ⟨d, i, -, -, hcode, he⟩ | ⟨d, -, -, -, rfl⟩ | ⟨c, args, i, hmove, hcode, he⟩
  · have hdrain : i ≠ .drain := by
      rintro rfl
      rw [State.sampling, ← Code.state5.inj hcode] at hs
      exact absurd hs (by decide)
    have hi : i ≠ .hReset := by rintro rfl; cases hcode
    exact ⟨he.rxq_eq_or_append hdrain, he.keeps_endpoints hdrain hi⟩
  · exact ⟨.inl rfl, rfl, rfl⟩
  · have hdrain : i ≠ .drain := by rintro rfl; cases hcode
    have hi : i ≠ .hReset := by rintro rfl; cases hcode; exact hreset hmove
    exact ⟨he.rxq_eq_or_append hdrain, he.keeps_endpoints hdrain hi⟩

end Sys2Proof.Machine
end

section
/-!
PROOFS. The kick detector and the drain (`spec/42_kick_detector.md`): the exact effects of KICK_POLL, KICK_CLR and DRAIN, the two
orders of a kick and its clearing, and the block that polls without a kick, which any move but a kick or a reset leaves polling
with its messages queued (rule R147).
-/

namespace Sys2Proof.Machine

/-- Settles O12: the bit of the snapshot that KICK_POLL tests is the latch. -/
theorem kickPollSeesTheLatch : Obligations.KickPollSeesTheLatch := by
  intro s
  rw [exec, execKickPoll, State.inKick_eq_kick, State.goto]

/-- Settles O13: KICK_CLR is these two writes. -/
theorem kickClrClearsTheLatch : Obligations.KickClrClearsTheLatch := fun _ => rfl

/-- Settles O14, by the two forms of RXQ. -/
theorem drainTakesTheHeadMessage : Obligations.DrainTakesTheHeadMessage := by
  refine ⟨fun s m rest hq => ?_, fun s hq => ?_⟩
  · rw [exec, execDrain]
    split
    next hq' => cases hq.symm.trans hq'; rfl
    next hq' => cases hq.symm.trans hq'
  · rw [exec, execDrain]
    split
    next hq' => cases hq.symm.trans hq'
    next => rfl

/-- Settles O15: each of the two operations has one effect, and the later write to the latch stands. -/
theorem kickSetAndClearInEitherOrder : Obligations.KickSetAndClearInEitherOrder := by
  refine fun s t u => ⟨fun ht => ?_, fun ht hu => ?_, fun ht hu => ?_⟩ <;> cases exec_effect ht
  · rfl
  all_goals
    cases exec_effect hu
    exact ⟨rfl, rfl⟩

/-! ## Polling without a kick -/

/-- The block polls for a kick and none is pending. -/
structure State.Unkicked (s : State) : Prop where
  polls : s.st = Ctrl.kickPoll
  noKick : s.kick = false
  noFault : s.fault = none

variable {s t : State}

/-- KICK_POLL stays where it is without a kick, and of the host's actions only H_KICK and H_RESET write `st` or the latch. -/
theorem Effect.keeps_unkicked {i : Instr} (he : Effect s i t) (hs : s.Unkicked)
    (hst : ∀ c, encode i = .state5 c → s.st = c) (hkick : i ≠ .hKick) (hreset : i ≠ .hReset) : t.Unkicked := by
  cases he with
  | kickPoll =>
    rw [s.inKick_eq_kick, hs.noKick]
    exact { hs with polls := rfl }
  | hStatus | hPushRoom | hPopHead => exact { hs with }
  | hPushFull | hPopEmpty => exact hs
  | hKick => exact absurd rfl hkick
  | hReset => exact absurd rfl hreset
  | _ => cases hs.polls.symm.trans (hst _ rfl)

theorem State.Unkicked.exists_runMove {m : Move} (hs : s.Unkicked) (hwf : m.wellFormed = true) (hkick : m ≠ .host 1#3 .none)
    (hreset : m ≠ .host 4#3 .none) : ∃ t, runMove m s = .next t ∧ t.Unkicked ∧ s.rxq <+: t.rxq := by
  cases m with
  | block d =>
    have hcode : encode .kickPoll = .state5 s.st := by rw [hs.polls, encode]
    obtain ⟨t, ht⟩ := exists_exec_eq_next .kickPoll (s.withDraws d)
    have he := exec_effect ht
    exact ⟨t, (blockStep_of_encode hcode hs.noFault d).trans ht,
      he.keeps_unkicked { hs with } (fun _ hc => Code.state5.inj (hcode.symm.trans hc)) nofun nofun, he.rxq_isPrefix nofun⟩
  | host c args =>
    obtain ⟨i, hcode⟩ := exists_encode_of_hostEventExists hwf
    obtain ⟨t, ht⟩ := exists_exec_eq_next i s
    have he := exec_effect ht
    have hiDrain : i ≠ .drain := by rintro rfl; cases hcode
    have hiKick : i ≠ .hKick := by rintro rfl; cases hcode; exact hkick rfl
    have hiReset : i ≠ .hReset := by rintro rfl; cases hcode; exact hreset rfl
    exact ⟨t, (hostMove_of_encode hcode s).trans ht,
      he.keeps_unkicked hs (fun _ hc => nomatch hcode.symm.trans hc) hiKick hiReset, he.rxq_isPrefix hiDrain⟩

theorem State.Unkicked.exists_runs {ms : List Move} (hs : s.Unkicked)
    (hms : ∀ m ∈ ms, m.wellFormed = true ∧ m ≠ .host 1#3 .none ∧ m ≠ .host 4#3 .none) :
    ∃ t, Runs ms s t ∧ t.Unkicked ∧ s.rxq <+: t.rxq := by
  induction ms generalizing s with
  | nil => exact ⟨s, .nil s, hs, [], s.rxq.append_nil⟩
  | cons m ms ih =>
    obtain ⟨⟨hwf, hkick, hreset⟩, htail⟩ := List.forall_mem_cons.mp hms
    have hticked : State.Unkicked { s with tick := s.tick + 1 } := { hs with }
    obtain ⟨t, hmove, ht, hqueue⟩ := hticked.exists_runMove hwf hkick hreset
    obtain ⟨u, hrest, hu, hqueue'⟩ := ih ht htail
    exact ⟨u, .cons hmove hrest, hu, hqueue.trans hqueue'⟩

/-- Settles O16: each of the moves keeps the block polling without a kick and RXQ's messages in place. -/
theorem messageWithoutKickStaysQueued : Obligations.MessageWithoutKickStaysQueued := by
  intro s ms hst hkick hf hms
  obtain ⟨t, hruns, ht, later, hqueue⟩ := State.Unkicked.exists_runs ⟨hst, hkick, hf⟩ hms
  exact ⟨t, hruns.runMoves_eq, ht.polls, ht.noKick, later, hqueue.symm⟩

end Sys2Proof.Machine
end

section
/-!
PROOFS. Every step keeps the levels of the output pins (`State.PinLevels`, `spec/43_sampler.md` rules R165 to R178). What a
control state needs of CLK and STB when it is entered is `State.PinsReady`; an operation drives its pin before it enters the next
state, or enters a state that needs the level it has found.
-/

namespace Sys2Proof.Machine

/-! ## The pin that an operation drives -/

theorem Config.clkBit_lt (c : Config) : c.val.clkBit < 32 := by
  have := Config.bits c
  omega

theorem Config.stbBit_lt (c : Config) : c.val.stbBit < 32 := by
  have := Config.bits c
  omega

theorem State.setOut_bit_self (s : State) {b : Nat} (hb : b < 32) : (s.setOut (Word.mask b)).out.bit b = true := by
  rw [s.setOut_bit hb, decide_eq_true rfl, Bool.or_true]

theorem State.clrOut_bit_self (s : State) {b : Nat} (hb : b < 32) : (s.clrOut (Word.mask b)).out.bit b = false := by
  rw [s.clrOut_bit hb, decide_eq_true rfl, Bool.not_true, Bool.and_false]

/-! ## What a control state needs -/

/-- The control states with CLK high. -/
def Ctrl.clockHigh : List Ctrl := [Ctrl.holdHi, Ctrl.shiftIn, Ctrl.clkFall]

/-- The control states with CLK low of which nothing is said about STB. -/
def Ctrl.clockLow : List Ctrl :=
  [Ctrl.startTest, Ctrl.clkRise, Ctrl.holdLo, Ctrl.signExt, Ctrl.emit, Ctrl.send, Ctrl.stbRise]

/-- The control states with STB high, where CLK is low. -/
def Ctrl.strobeHigh : List Ctrl := [Ctrl.holdStb, Ctrl.stbFall]

/-- `s.PinsReady c`: CLK and STB are at the levels that `State.PinLevels` gives for control state `c`. -/
inductive State.PinsReady (s : State) (c : Ctrl) : Prop
  | free (hhigh : c ∉ Ctrl.clockHigh) (hlow : c ∉ Ctrl.clockLow) (hstb : c ∉ Ctrl.strobeHigh)
  | high (hc : c ∈ Ctrl.clockHigh) (hclk : s.out.bit s.cfg.val.clkBit = true)
  | low (hc : c ∈ Ctrl.clockLow) (hclk : s.out.bit s.cfg.val.clkBit = false)
  | strobe (hc : c ∈ Ctrl.strobeHigh) (hclk : s.out.bit s.cfg.val.clkBit = false)
      (hstb : s.out.bit s.cfg.val.stbBit = true)

/-- The bits of OUT that the block does not use keep `OUT_INIT`. -/
def State.UnusedKept (s : State) : Prop :=
  ∀ b < 32, b ≠ s.cfg.val.clkBit → b ≠ s.cfg.val.stbBit → s.out.bit b = s.cfg.val.outInit.bit b

variable {s t : State}

/-- Entering a control state for which the pins are ready gives the levels. -/
theorem State.PinsReady.goto_pinLevels {c : Ctrl} (hc : s.PinsReady c) (hunused : s.UnusedKept) : (s.goto c).PinLevels := by
  cases hc with
  | free hhigh hlow hstb =>
    simp only [Ctrl.clockHigh, Ctrl.clockLow, Ctrl.strobeHigh, List.mem_cons, List.not_mem_nil, or_false, not_or]
      at hhigh hlow hstb
    exact ⟨by simp [hhigh], by simp [hlow, hstb], by simp [hstb], hunused⟩
  | high hc hclk =>
    simp only [Ctrl.clockHigh, List.mem_cons, List.not_mem_nil, or_false] at hc
    rcases hc with rfl | rfl | rfl <;> exact ⟨fun _ => hclk, nofun, nofun, hunused⟩
  | low hc hclk =>
    simp only [Ctrl.clockLow, List.mem_cons, List.not_mem_nil, or_false] at hc
    rcases hc with rfl | rfl | rfl | rfl | rfl | rfl | rfl <;> exact ⟨nofun, fun _ => hclk, nofun, hunused⟩
  | strobe hc hclk hstb =>
    simp only [Ctrl.strobeHigh, List.mem_cons, List.not_mem_nil, or_false] at hc
    rcases hc with rfl | rfl <;> exact ⟨nofun, fun _ => hclk, fun _ => hstb, hunused⟩

theorem State.PinsReady.of_afterLo {n : BitVec 5} {c : Ctrl} (hc : afterLo n = .ok c)
    (hclk : s.out.bit s.cfg.val.clkBit = false) : s.PinsReady c := by
  refine .low ?_ hclk
  rcases afterLo_cases n with ⟨-, e⟩ | ⟨-, e⟩ | ⟨-, e⟩ <;> cases e.symm.trans hc <;> decide

/-! ## The operations -/

theorem Effect.cfg_eq {i : Instr} (he : Effect s i t) : t.cfg = s.cfg := by
  cases he <;> rfl

/-- An operation leaves the unused bits alone, or loads all of OUT with `OUT_INIT`. -/
theorem Effect.keeps_unusedKept {i : Instr} (he : Effect s i t) (hs : s.UnusedKept) : t.UnusedKept := by
  by_cases hi : i = .hReset
  · subst hi
    cases he
    exact fun _ _ _ _ => rfl
  · intro b hb hclk hstb
    rw [he.cfg_eq] at hclk hstb ⊢
    exact (he.out_bit_of_ne hi hb hclk hstb).trans (hs b hb hclk hstb)

/-- An operation keeps the pin levels, if a block operation is the one that `st` names. -/
theorem Effect.keeps_pinLevels {i : Instr} (he : Effect s i t) (hs : s.PinLevels)
    (hst : ∀ c, encode i = .state5 c → s.st = c) : t.PinLevels := by
  have hunused : t.UnusedKept := he.keeps_unusedKept hs.unused
  cases he with
  | hsWait | hsAnn0 | hsAnn1 | kickPoll | edgePoll =>
    exact State.PinsReady.goto_pinLevels
      (.free (by split <;> decide) (by split <;> decide) (by split <;> decide)) hunused
  | kickClr | drainHead | drainEmpty | startHigh | stbFall | hReset =>
    exact State.PinsReady.goto_pinLevels (.free (by decide) (by decide) (by decide)) hunused
  | clkIdleLow | clkFallHold =>
    exact State.PinsReady.goto_pinLevels (.low (by decide) (s.clrOut_bit_self (Config.clkBit_lt s.cfg))) hunused
  | clkFallLeave _ hc =>
    exact State.PinsReady.goto_pinLevels (.of_afterLo hc (s.clrOut_bit_self (Config.clkBit_lt s.cfg))) hunused
  | clkRise =>
    exact State.PinsReady.goto_pinLevels (.high (by decide) (s.setOut_bit_self (Config.clkBit_lt s.cfg))) hunused
  | holdHiStay | holdHiLeave | shiftIn =>
    exact State.PinsReady.goto_pinLevels (.high (by decide) (hs.clkHigh (by simp [hst _ rfl]))) hunused
  | startLow | holdLoStay | signExt | send =>
    exact State.PinsReady.goto_pinLevels (.low (by decide) (hs.clkLow (by simp [hst _ rfl]))) hunused
  | holdLoLeave _ hc =>
    exact State.PinsReady.goto_pinLevels (.of_afterLo hc (hs.clkLow (by simp [hst _ rfl]))) hunused
  | emit =>
    exact State.PinsReady.goto_pinLevels (.low (by split <;> decide) (hs.clkLow (by simp [hst _ rfl]))) hunused
  | stbRiseHold | stbRiseLeave =>
    have hclk : (s.setOut s.stbMask).out.bit s.cfg.val.clkBit = false :=
      (s.setOut_bit_of_ne (Config.clkBit_lt s.cfg) (Config.out_distinct s.cfg)).trans (hs.clkLow (by simp [hst _ rfl]))
    exact State.PinsReady.goto_pinLevels
      (.strobe (by decide) hclk (s.setOut_bit_self (Config.stbBit_lt s.cfg))) hunused
  | holdStbStay | holdStbLeave =>
    exact State.PinsReady.goto_pinLevels
      (.strobe (by decide) (hs.clkLow (by simp [hst _ rfl])) (hs.stbHigh (by simp [hst _ rfl]))) hunused
  | clkFallFault | holdLoFault | emitFault | sendFault => exact { hs with }
  | hStatus | hKick | hPushRoom | hPopHead => exact { hs with }
  | hPushFull | hPopEmpty => exact hs

/-- Settles O51: a step performs an operation on the state with its move taken and its draws latched, and the operation keeps
the pin levels; a raised fault writes neither OUT nor `st`. -/
theorem stepKeepsThePinLevels : Obligations.StepKeepsThePinLevels := by
  intro s t hs h
  rcases step_cases h with ⟨d, i, -, -, hcode, he⟩ | ⟨d, -, -, -, rfl⟩ | ⟨c, args, i, -, hcode, he⟩
  · exact he.keeps_pinLevels { hs with } fun c hc => Code.state5.inj (hcode.symm.trans hc)
  · exact { hs with }
  · exact he.keeps_pinLevels { hs with } fun c hc => nomatch hcode.symm.trans hc

end Sys2Proof.Machine
end

section
/-!
PROOFS. The operations of the sampler, one by one (`spec/43_sampler.md` rules R164 to R178): the exact effect of each.
-/

namespace Sys2Proof.Machine

/-- Settles O18: the bit of the snapshot that EDGE_POLL reads is the pin of the control line. -/
theorem edgePollDetectsEveryTransition : Obligations.EdgePollDetectsEveryTransition := by
  intro s
  simp only [exec, execEdgePoll, State.edge, State.inCtrl_eq_pin, bne_iff_ne]
  rw [State.observeCtrl, State.inCtrl_eq_pin, State.goto]

/-- Settles O19: CLK_IDLE_LOW is these two writes. -/
theorem clkIdleLowForcesTheClockLow : Obligations.ClkIdleLowForcesTheClockLow := fun _ => rfl

/-- Settles O20, by the level of the start line's pin. -/
theorem startTestBeginsWhenLow : Obligations.StartTestBeginsWhenLow := by
  intro s
  rw [← State.inStart_eq_pin]
  split
  next hlow => exact exec_startTest_of_low hlow
  next hhigh => exact exec_startTest_of_high (Bool.eq_true_of_not_eq_false hhigh)

/-! ## The loading and the hold states (rules R160 and R161) -/

/-- Where the exit raises no fault, a loading or hold state makes its writes and chooses the next state. -/
theorem State.moveTo_ite_ok (s : State) (p : Prop) [Decidable p] (hold exit : Ctrl) (w : State → State) :
    s.moveTo (if p then .ok exit else .ok hold) w = (w s).goto (if p then exit else hold) := by
  rw [← apply_ite Except.ok, moveTo_ok]

/-- Where the bit counter chooses the exit, a count above 24 raises the fault before any write. -/
theorem State.moveTo_ite_afterLo (s : State) (p : Prop) [Decidable p] (hold : Ctrl) (w : State → State) :
    s.moveTo (if p then afterLo s.n else .ok hold) w =
      if p ∧ 24 < s.n.toNat then s.raise (.badCounter s.n)
      else (w s).goto (if ¬p then hold else if s.n = 24#5 then Ctrl.signExt else Ctrl.clkRise) := by
  by_cases hp : p
  · rw [if_pos hp, if_neg (not_not.mpr hp)]
    rcases afterLo_cases s.n with ⟨hn, e⟩ | ⟨hn, e⟩ | ⟨hn, e⟩
    · rw [e, moveTo_ok, if_neg (by omega), if_pos (BitVec.eq_of_toNat_eq hn)]
    · rw [e, moveTo_ok, if_neg (by omega), if_neg (by rintro h; simp [h] at hn)]
    · rw [e, moveTo_error, if_pos ⟨hp, hn⟩]
  · rw [if_neg hp, moveTo_ok, if_neg (fun h => hp h.1), if_pos hp]

/-- Settles O21: CLK_RISE has one effect, since `T_HI` is not 0. -/
theorem clkRiseSetsTheClockAndHolds : Obligations.ClkRiseSetsTheClockAndHolds := by
  intro s
  obtain ⟨t, ht⟩ := exists_exec_eq_next .clkRise s
  cases exec_effect ht
  exact ht

/-- Settles O22: the new count decides whether the hold is left. -/
theorem holdHiAndHoldStbCountDown : Obligations.HoldHiAndHoldStbCountDown := fun s =>
  ⟨congrArg Host.Outcome.next (s.moveTo_ite_ok ..), congrArg Host.Outcome.next (s.moveTo_ite_ok ..)⟩

/-- Settles O24: CLK_FALL skips its hold where `T_LO` is 0. -/
theorem clkFallClearsTheClock : Obligations.ClkFallClearsTheClock := fun s =>
  congrArg Host.Outcome.next (s.moveTo_ite_afterLo ..)

/-- Settles O25: HOLD_LO is left where the new count is 0. -/
theorem holdLoEndsTheBit : Obligations.HoldLoEndsTheBit := fun s =>
  congrArg Host.Outcome.next (s.moveTo_ite_afterLo ..)

/-- Settles O29: STB_RISE skips its hold where `T_STB` is 0, and STB_FALL is two writes. -/
theorem strobeRisesAndFalls : Obligations.StrobeRisesAndFalls := fun s =>
  ⟨congrArg Host.Outcome.next (s.moveTo_ite_ok ..), rfl⟩

/-! ## The shift register and the sign extension -/

/-- Settles O23: the shifted register bit by bit, with the data line's pin below it. -/
theorem shiftInTakesTheDataBit : Obligations.ShiftInTakesTheDataBit := by
  refine fun s => ⟨_, rfl, rfl, ?_, fun i hi => ?_⟩
  · exact (getLsbD_shl32_or_ofBit s.acc s.inData (by decide)).trans s.inData_eq_pin
  · exact getLsbD_shl32_or_ofBit s.acc s.inData (Nat.succ_lt_succ hi)

/-- Settles O27: the two shifts are the sign extension. -/
theorem signExtExtendsTheLow24Bits : Obligations.SignExtExtendsTheLow24Bits := by
  intro s
  rw [exec, execSignExt, shl32_asr32_eq_sext24]

theorem toInt_sext24 (w : Word) : w.sext24.toInt = (w.setWidth 24).toInt :=
  BitVec.toInt_signExtend_of_le (by decide)

/-- Settles O28: the sign extension keeps the value of the low 24 bits, which is the balanced residue mod 2^24, and of which
bit 23 is the sign. -/
theorem shiftPairIsSignExtension : Obligations.ShiftPairIsSignExtension := by
  refine ⟨shl32_asr32_eq_sext24, fun v acc hlo hhi hv => ?_, fun acc => ?_⟩
  · rw [shl32_asr32_eq_sext24, toInt_sext24, BitVec.toInt_eq_toNat_bmod, hv]
    exact (Int.emod_bmod v (2 ^ 24)).trans (Int.bmod_eq_of_le (by omega) (by omega))
  · have hmsb : (acc.setWidth 24).msb = acc.bit 23 := by simp [BitVec.msb_eq_getLsbD_last]
    rw [shl32_asr32_eq_sext24, toInt_sext24, BitVec.toInt_eq_msb_cond, hmsb]
    cases acc.bit 23 <;> simp

end Sys2Proof.Machine
end

section
/-!
PROOFS. What the sampler is closed under and what it does not see (`spec/43_sampler.md` rules R163 and R164): no move but a reset
leaves Sampling, and a control line with a pin of its own is seen by EDGE_POLL alone.
-/

namespace Sys2Proof.Machine

variable {s t : State} {i : Instr}

/-- The successors at the end of a bit lie in Sampling. -/
theorem sampling_of_afterLo {n : BitVec 5} {c : Ctrl} (h : afterLo n = .ok c) : 0x06 ≤ c.toNat ∧ c.toNat ≤ 0x13 :=
  ⟨edgePoll_le_of_afterLo h, legal_of_afterLo h⟩

/-- An operation other than H_RESET stays in Sampling: the operations of bring-up, of the kick detector and of the drain are not
performed there, and the others keep `st` or write a state of Sampling to it. -/
theorem Effect.keeps_sampling (he : Effect s i t) (hi : i ≠ .hReset) (hst : ∀ c, encode i = .state5 c → s.st = c)
    (hs : s.sampling) : t.sampling := by
  cases he with
  | hsWait | hsAnn0 | hsAnn1 | kickPoll | kickClr | drainHead | drainEmpty =>
    rw [State.sampling, hst _ rfl] at hs
    exact absurd hs (by decide)
  | edgePoll | emit =>
    rw [State.sampling, State.goto_st]
    split <;> decide
  | clkFallLeave _ hc | holdLoLeave _ hc => exact sampling_of_afterLo hc
  | clkFallFault | holdLoFault | emitFault | sendFault => exact hs
  | hStatus | hKick | hPushRoom | hPushFull | hPopHead | hPopEmpty => exact hs
  | hReset => exact absurd rfl hi
  | _ => simp [State.sampling]

/-- Settles O30: a step performs one operation, which is H_RESET only where the next move is a reset, or raises a fault, which
leaves the control state as it is. -/
theorem samplingIsNeverLeft : Obligations.SamplingIsNeverLeft := by
  intro s t hs h
  rcases step_cases h with ⟨d, i, -, -, hcode, he⟩ | ⟨d, -, -, -, rfl⟩ | ⟨c, args, i, hmove, hcode, he⟩
  · have hi : i ≠ .hReset := by rintro rfl; cases hcode
    exact .inl (he.keeps_sampling hi (fun _ hc => Code.state5.inj (hcode.symm.trans hc)) hs)
  · exact .inl hs
  · by_cases hi : i = .hReset
    · subst hi
      cases hcode
      exact .inr hmove
    · exact .inl (he.keeps_sampling hi (fun _ hc => nomatch hcode.symm.trans hc) hs)

/-! ## The control line -/

/-- Setting one pin leaves the level of another as it is. -/
theorem setPin_bit_of_ne (p : Word) {b j : Nat} (level : Bool) (hj : j < 32) (hne : b ≠ j) :
    (setPin p b level).bit j = p.bit j := by
  rw [setPin_bit p level hj, if_neg hne.symm]

/-- The data and start lines are pins of their own, and the kick latch is no pin (rule R8, `kick_distinct`). -/
theorem unnoticed_ctrlPin (s : State) (level : Bool) (hpoll : i ≠ .edgePoll) (hdata : s.cfg.val.ctrlBit ≠ s.cfg.val.dataBit)
    (hstart : s.cfg.val.ctrlBit ≠ s.cfg.val.startBit) :
    Unnoticed { draws := fun _ => { s.draws with pins := setPin s.draws.pins s.cfg.val.ctrlBit level } } i s where
  ready _ := rfl
  annOk _ := rfl
  inKick _ := (State.inKick_eq_kick _).trans s.inKick_eq_kick.symm
  inCtrl h := absurd h hpoll
  inStart _ := (State.inStart_eq_pin _).trans
    ((setPin_bit_of_ne _ level (Config.startBit_lt s.cfg) hstart).trans s.inStart_eq_pin.symm)
  inData _ := (State.inData_eq_pin _).trans
    ((setPin_bit_of_ne _ level (Config.dataBit_lt s.cfg) hdata).trans s.inData_eq_pin.symm)
  txOk _ := rfl
  kick _ _ := rfl
  hostStatus _ _ := rfl

/-- Settles O47: an operation other than EDGE_POLL does not notice the control line's pin. -/
theorem controlLineIsSeenOnlyAtEdgePoll : Obligations.ControlLineIsSeenOnlyAtEdgePoll :=
  fun _ s level hpoll hdata hstart => (unnoticed_ctrlPin s level hpoll hdata hstart).exists_exec

end Sys2Proof.Machine
end

section
/-!
PROOFS. The length of a hold (`spec/43_sampler.md` rule R160): a hold state entered with count T is held for T block steps, and
the last of them leaves it.
-/

namespace Sys2Proof.Machine

theorem toNat_eq_pred_add_one {d : Word} (hd : d ≠ 0#32) : d.toNat = (d - 1#32).toNat + 1 := by
  bv_omega

/-- Block steps, no more than the count says, count down and leave OUT alone; all of them leave the hold state, and fewer do
not. By induction on them. -/
theorem IsHold.exists_runs {i : Instr} {hold c : Ctrl} {exit : BitVec 5 → Except Fault Ctrl} (hi : IsHold i hold exit)
    {ds : List Draws} {s : State} (hst : s.st = hold) (hf : s.fault = none) (hpos : s.dly ≠ 0#32)
    (hle : ds.length ≤ s.dly.toNat) (hc : exit s.n = .ok c) :
    ∃ t, Runs (ds.map .block) s t ∧ t.st = (if ds.length = s.dly.toNat then c else hold) ∧
      t.dly.toNat = s.dly.toNat - ds.length ∧ t.out = s.out := by
  induction ds generalizing s with
  | nil => exact ⟨s, .nil s, by rw [if_neg (fun h => hpos (BitVec.eq_of_toNat_eq h.symm)), hst], rfl, rfl⟩
  | cons d ds ih =>
    rw [List.length_cons] at hle
    have hsucc := toNat_eq_pred_add_one hpos
    have hmove := (blockStep_of_encode (s := { s with tick := s.tick + 1 }) (hst ▸ hi.code) hf d).trans (hi.counts _)
    rcases State.holdStep_cases { s with draws := d, tick := s.tick + 1 } hold (exit s.n) with
      ⟨hd, e⟩ | ⟨hd, c', hc', e⟩ | ⟨-, r, hr, -⟩
    · have hless : ds.length ≤ (s.dly - 1#32).toNat := by omega
      obtain ⟨t, hrest, hst', hdly, hout⟩ := ih (s := { s with
        dly := s.dly - 1#32, st := hold, draws := d, tick := s.tick + 1 }) rfl hf hd hless hc
      refine ⟨t, .cons (hmove.trans (congrArg _ e)) hrest, ?_, ?_, hout⟩
      · rw [List.length_cons, hsucc]
        simpa only [Nat.add_right_cancel_iff] using hst'
      · rwa [List.length_cons, hsucc, Nat.add_sub_add_right]
    · obtain rfl : c = c' := Except.ok.inj (hc.symm.trans hc')
      have hd : s.dly - 1#32 = 0#32 := hd
      have hone : s.dly.toNat = 1 := by rw [hsucc, hd, BitVec.toNat_zero]
      obtain rfl : ds = [] := List.length_eq_zero_iff.mp (by omega)
      refine ⟨_, .cons (hmove.trans (congrArg _ e)) (.nil _), ?_, ?_, rfl⟩
      · simp [hone]
      · simp [hone, hd]
    · cases hc.symm.trans hr

theorem IsHold.lasts_exactly {i : Instr} {hold c : Ctrl} {exit : BitVec 5 → Except Fault Ctrl} (hi : IsHold i hold exit)
    {ds : List Draws} {s : State} (hst : s.st = hold) (hf : s.fault = none) (hpos : s.dly ≠ 0#32)
    (hlen : ds.length = s.dly.toNat) (hc : exit s.n = .ok c) :
    (∃ t, runMoves (ds.map .block) s = .next t ∧ t.st = c ∧ t.dly = 0#32 ∧ t.out = s.out) ∧
    ∀ k < ds.length, ∃ t, runMoves ((ds.take k).map .block) s = .next t ∧ t.st = s.st ∧ t.out = s.out := by
  constructor
  · obtain ⟨t, hruns, ht, hdly, hout⟩ := hi.exists_runs hst hf hpos hlen.le hc
    refine ⟨t, hruns.runMoves_eq, ht.trans (if_pos hlen), BitVec.eq_of_toNat_eq ?_, hout⟩
    rw [hdly, hlen, Nat.sub_self, BitVec.toNat_zero]
  · intro k hk
    have hlt : (ds.take k).length < s.dly.toNat := by
      rw [List.length_take]
      omega
    obtain ⟨t, hruns, ht, -, hout⟩ := hi.exists_runs hst hf hpos hlt.le hc
    exact ⟨t, hruns.runMoves_eq, (ht.trans (if_neg hlt.ne)).trans hst.symm, hout⟩

/-- Settles O26, for each of the three hold states with its exit. -/
theorem holdLastsExactlyItsCount : Obligations.HoldLastsExactlyItsCount := by
  rintro s x ds (⟨hst, rfl⟩ | ⟨hst, rfl⟩ | ⟨hst, hx⟩) hf hpos hlen
  · exact isHold_holdHi.lasts_exactly hst hf hpos hlen rfl
  · exact isHold_holdStb.lasts_exactly hst hf hpos hlen rfl
  · exact isHold_holdLo.lasts_exactly hst hf hpos hlen hx

end Sys2Proof.Machine
end

section
/-!
PROOFS. The cycles of an acquisition (`spec/43_sampler.md` rule R179). `CyclesLeft` says in how many block steps the block is back in
EDGE_POLL; every block step before takes one of them, so the block is not in EDGE_POLL until all are taken.
-/

namespace Sys2Proof.Machine

/-! ## The count -/

/-- The cycles from EMIT to the end of an acquisition: EMIT, SEND if the batch fills, and the strobe. -/
def storeCycles (c : RawConfig) (idx : BitVec 4) : Nat := 3 + c.tStb.toNat + if idx.toNat + 1 = batchN then 1 else 0

/-- The cycles from the end of a bit to the end of an acquisition, with `m` bits to come. -/
def bitsCycles (c : RawConfig) (idx : BitVec 4) (m : Nat) : Nat := m * bitCycles c + 1 + storeCycles c idx

theorem bitsCycles_zero (c : RawConfig) (idx : BitVec 4) : bitsCycles c idx 0 = 1 + storeCycles c idx := by
  rw [bitsCycles, Nat.zero_mul, Nat.zero_add]

theorem bitsCycles_succ (c : RawConfig) (idx : BitVec 4) (m : Nat) :
    bitsCycles c idx (m + 1) = 3 + c.tHi.toNat + c.tLo.toNat + bitsCycles c idx m := by
  rw [bitsCycles, bitsCycles, Nat.succ_mul, bitCycles]
  omega

/-- `CyclesLeft c n idx dly i k`: with `i` as the next operation and these counters, the block is back in EDGE_POLL after `k`
block steps. `m` is the number of bits to come after this one; the premises are those under which no fault is raised. -/
inductive CyclesLeft (c : RawConfig) (n : BitVec 5) (idx : BitVec 4) (dly : Word) : Instr → Nat → Prop
  | clkRise {k : Nat} (m : Nat) (hn : n.toNat + (m + 1) = 24) (hidx : idx.toNat < batchN)
      (hk : k = bitsCycles c idx (m + 1)) : CyclesLeft c n idx dly .clkRise k
  | holdHi {k : Nat} (m : Nat) (hn : n.toNat + (m + 1) = 24) (hidx : idx.toNat < batchN) (hd : dly ≠ 0#32)
      (hk : k = dly.toNat + (2 + c.tLo.toNat + bitsCycles c idx m)) : CyclesLeft c n idx dly .holdHi k
  | shiftIn {k : Nat} (m : Nat) (hn : n.toNat + (m + 1) = 24) (hidx : idx.toNat < batchN)
      (hk : k = 2 + c.tLo.toNat + bitsCycles c idx m) : CyclesLeft c n idx dly .shiftIn k
  | clkFall {k : Nat} (m : Nat) (hn : n.toNat + m = 24) (hidx : idx.toNat < batchN)
      (hk : k = 1 + c.tLo.toNat + bitsCycles c idx m) : CyclesLeft c n idx dly .clkFall k
  | holdLo {k : Nat} (m : Nat) (hn : n.toNat + m = 24) (hidx : idx.toNat < batchN) (hd : dly ≠ 0#32)
      (hk : k = dly.toNat + bitsCycles c idx m) : CyclesLeft c n idx dly .holdLo k
  | signExt {k : Nat} (hidx : idx.toNat < batchN) (hk : k = 1 + storeCycles c idx) : CyclesLeft c n idx dly .signExt k
  | emit {k : Nat} (hidx : idx.toNat < batchN) (hk : k = storeCycles c idx) : CyclesLeft c n idx dly .emit k
  | send {k : Nat} (hidx : idx.toNat = batchN) (hk : k = 3 + c.tStb.toNat) : CyclesLeft c n idx dly .send k
  | stbRise {k : Nat} (hk : k = 2 + c.tStb.toNat) : CyclesLeft c n idx dly .stbRise k
  | holdStb {k : Nat} (hd : dly ≠ 0#32) (hk : k = dly.toNat + 1) : CyclesLeft c n idx dly .holdStb k
  | stbFall {k : Nat} (hk : k = 1) : CyclesLeft c n idx dly .stbFall k
  | edgePoll : CyclesLeft c n idx dly .edgePoll 0

/-- The block is back in EDGE_POLL after `k` block steps and raises no fault on the way. -/
structure State.Returns (s : State) (k : Nat) : Prop where
  noFault : s.fault = none
  counts : ∃ i, encode i = .state5 s.st ∧ CyclesLeft s.cfg.val s.n s.idx s.dly i k

variable {s t : State}

theorem State.Returns.st_ne {k : Nat} (h : s.Returns k) (hk : 0 < k) : s.st ≠ Ctrl.edgePoll := by
  obtain ⟨-, i, hcode, hs⟩ := h
  cases hs with
  | edgePoll => exact absurd hk (Nat.lt_irrefl 0)
  | _ => rw [← Code.state5.inj hcode]; decide

/-- The successor at the end of a bit, by the bits to come. -/
theorem CyclesLeft.of_afterLo {c : RawConfig} {n : BitVec 5} {idx : BitVec 4} {dly : Word} {st : Ctrl} {k m : Nat}
    (hc : afterLo n = .ok st) (hn : n.toNat + m = 24) (hidx : idx.toNat < batchN) (hk : k = bitsCycles c idx m) :
    ∃ i, encode i = .state5 st ∧ CyclesLeft c n idx dly i k := by
  rcases afterLo_cases n with ⟨hfull, e⟩ | ⟨hlt, e⟩ | ⟨hgt, -⟩
  · cases e.symm.trans hc
    obtain rfl : m = 0 := by omega
    exact ⟨.signExt, rfl, .signExt hidx (hk.trans (bitsCycles_zero ..))⟩
  · cases e.symm.trans hc
    obtain ⟨m, rfl⟩ := Nat.exists_eq_succ_of_ne_zero (show m ≠ 0 by omega)
    exact ⟨.clkRise, rfl, .clkRise m hn hidx hk⟩
  · omega

/-- An operation before EDGE_POLL takes one of the cycles. -/
theorem Effect.returns {i : Instr} {k : Nat} (he : Effect s i t) (hs : CyclesLeft s.cfg.val s.n s.idx s.dly i (k + 1))
    (hf : s.fault = none) : t.Returns k := by
  cases hs with
  | clkRise m hn hidx hk =>
    cases he
    rw [bitsCycles_succ] at hk
    exact ⟨hf, .holdHi, rfl, .holdHi m hn hidx (Config.tHi_ne_zero s.cfg)
      (show k = s.cfg.val.tHi.toNat + (2 + s.cfg.val.tLo.toNat + bitsCycles s.cfg.val s.idx m) by omega)⟩
  | holdHi m hn hidx hd hk =>
    rw [toNat_eq_pred_add_one hd] at hk
    cases he with
    | holdHiStay hd' =>
      exact ⟨hf, .holdHi, rfl, .holdHi m hn hidx hd'
        (show k = (s.dly - 1#32).toNat + (2 + s.cfg.val.tLo.toNat + bitsCycles s.cfg.val s.idx m) by omega)⟩
    | holdHiLeave hd' =>
      rw [hd', BitVec.toNat_zero] at hk
      exact ⟨hf, .shiftIn, rfl, .shiftIn m hn hidx (show k = 2 + s.cfg.val.tLo.toNat + bitsCycles s.cfg.val s.idx m by omega)⟩
  | shiftIn m hn hidx hk =>
    cases he
    exact ⟨hf, .clkFall, rfl, .clkFall m (show (s.n + 1#5).toNat + m = 24 by bv_omega) hidx
      (show k = 1 + s.cfg.val.tLo.toNat + bitsCycles s.cfg.val s.idx m by omega)⟩
  | clkFall m hn hidx hk =>
    cases he with
    | clkFallHold hd =>
      exact ⟨hf, .holdLo, rfl, .holdLo m hn hidx hd (show k = s.cfg.val.tLo.toNat + bitsCycles s.cfg.val s.idx m by omega)⟩
    | clkFallLeave hd hc =>
      rw [hd, BitVec.toNat_zero] at hk
      exact ⟨hf, CyclesLeft.of_afterLo hc hn hidx (show k = bitsCycles s.cfg.val s.idx m by omega)⟩
    | clkFallFault _ hr => exact absurd hr (afterLo_ne_error (by omega) _)
  | holdLo m hn hidx hd hk =>
    rw [toNat_eq_pred_add_one hd] at hk
    cases he with
    | holdLoStay hd' =>
      exact ⟨hf, .holdLo, rfl, .holdLo m hn hidx hd'
        (show k = (s.dly - 1#32).toNat + bitsCycles s.cfg.val s.idx m by omega)⟩
    | holdLoLeave hd' hc =>
      rw [hd', BitVec.toNat_zero] at hk
      exact ⟨hf, CyclesLeft.of_afterLo hc hn hidx (show k = bitsCycles s.cfg.val s.idx m by omega)⟩
    | holdLoFault _ hr => exact absurd hr (afterLo_ne_error (by omega) _)
  | signExt hidx hk =>
    cases he
    exact ⟨hf, .emit, rfl, .emit hidx (show k = storeCycles s.cfg.val s.idx by omega)⟩
  | emit hidx hk =>
    rw [storeCycles] at hk
    cases he with
    | emit =>
      by_cases hten : s.idx.toNat + 1 = batchN
      · rw [if_pos hten] at hk ⊢
        exact ⟨hf, .send, rfl, .send (show (s.idx + 1#4).toNat = batchN by simp only [batchN] at hten ⊢; bv_omega)
          (show k = 3 + s.cfg.val.tStb.toNat by omega)⟩
      · rw [if_neg hten] at hk ⊢
        exact ⟨hf, .stbRise, rfl, .stbRise (show k = 2 + s.cfg.val.tStb.toNat by omega)⟩
    | emitFault hge => exact absurd hidx hge
  | send hidx hk =>
    cases he with
    | send => exact ⟨hf, .stbRise, rfl, .stbRise (show k = 2 + s.cfg.val.tStb.toNat by omega)⟩
    | sendFault hne => exact absurd hidx hne
  | stbRise hk =>
    cases he with
    | stbRiseHold hd => exact ⟨hf, .holdStb, rfl, .holdStb hd (show k = s.cfg.val.tStb.toNat + 1 by omega)⟩
    | stbRiseLeave hd =>
      rw [hd, BitVec.toNat_zero] at hk
      exact ⟨hf, .stbFall, rfl, .stbFall (by omega)⟩
  | holdStb hd hk =>
    rw [toNat_eq_pred_add_one hd] at hk
    cases he with
    | holdStbStay hd' => exact ⟨hf, .holdStb, rfl, .holdStb hd' (show k = (s.dly - 1#32).toNat + 1 by omega)⟩
    | holdStbLeave hd' =>
      rw [hd', BitVec.toNat_zero] at hk
      exact ⟨hf, .stbFall, rfl, .stbFall (by omega)⟩
  | stbFall hk =>
    cases he
    obtain rfl : k = 0 := by omega
    exact ⟨hf, .edgePoll, rfl, .edgePoll⟩

/-! ## Runs of block steps -/

/-- Block steps, no more than there are cycles left, take as many of them. By induction on the steps. -/
theorem State.Returns.exists_runs {ds : List Draws} {k : Nat} (hs : s.Returns (ds.length + k)) :
    ∃ t, Runs (ds.map .block) s t ∧ t.Returns k := by
  induction ds generalizing s with
  | nil => exact ⟨s, .nil s, by simpa using hs⟩
  | cons d ds ih =>
    rw [List.length_cons, Nat.add_right_comm] at hs
    obtain ⟨hf, i, hcode, hleft⟩ := hs
    obtain ⟨t, ht⟩ := exists_exec_eq_next i (State.withDraws { s with tick := s.tick + 1 } d)
    obtain ⟨u, hrest, hu⟩ := ih ((exec_effect ht).returns hleft hf)
    exact ⟨u, .cons ((blockStep_of_encode (s := { s with tick := s.tick + 1 }) hcode hf d).trans ht) hrest, hu⟩

/-! ## The moves of an acquisition as block steps -/

/-- The draws of a script's step with these pins. -/
def stepDraws (pins : Word) : Draws := ⟨pins, true, true⟩

theorem stepMove_eq_block (pins : Word) : stepMove pins = .block (stepDraws pins) := rfl

theorem exists_draws_pulseMoves (c : RawConfig) (pins : Word) (b : Bool) :
    ∃ ds : List Draws, ds.length = bitCycles c ∧ pulseMoves c pins b = ds.map .block := by
  refine ⟨stepDraws pins :: List.replicate c.tHi.toNat (stepDraws pins) ++ stepDraws (setPin pins c.dataBit b) ::
    stepDraws (setPin pins c.dataBit b) :: List.replicate c.tLo.toNat (stepDraws (setPin pins c.dataBit b)), ?_, ?_⟩
  · simp only [List.length_append, List.length_cons, List.length_replicate, bitCycles]
    omega
  · simp [pulseMoves, stepMove_eq_block]

theorem exists_draws_pulsesMoves (c : RawConfig) (pins : Word) (bs : List Bool) :
    ∃ ds : List Draws, ds.length = bs.length * bitCycles c ∧ pulsesMoves c pins bs = ds.map .block := by
  induction bs generalizing pins with
  | nil => exact ⟨[], by simp, rfl⟩
  | cons b bs ih =>
    obtain ⟨ds, hlen, hds⟩ := exists_draws_pulseMoves c pins b
    obtain ⟨ds', hlen', hds'⟩ := ih (setPin pins c.dataBit b)
    refine ⟨ds ++ ds', ?_, by rw [pulsesMoves, hds, hds', List.map_append]⟩
    rw [List.length_append, hlen, hlen', List.length_cons, Nat.succ_mul, Nat.add_comm]

theorem exists_draws_finishMoves (c : RawConfig) (pins : Word) (idx : BitVec 4) (txOk : Bool) :
    ∃ ds : List Draws, ds.length = 1 + storeCycles c idx ∧
      finishMoves c pins (decide (idx.toNat + 1 = batchN)) txOk = ds.map .block := by
  refine ⟨[stepDraws pins, stepDraws pins] ++ (if idx.toNat + 1 = batchN then [⟨pins, true, txOk⟩] else []) ++
    stepDraws pins :: List.replicate c.tStb.toNat (stepDraws pins) ++ [stepDraws pins], ?_, ?_⟩
  · rw [storeCycles]
    split <;> simp <;> omega
  · by_cases h : idx.toNat + 1 = batchN <;> simp [finishMoves, stepMove_eq_block, h]

/-- The moves of `acquire` after its first three steps are block steps, as many as there are cycles for 24 bits. -/
theorem State.exists_draws_acquireMoves (s : State) (v : BitVec 24) :
    ∃ ds : List Draws, ds.length = bitsCycles s.cfg.val s.idx 24 ∧
      s.acquireMoves v .full =
        [stepMove s.togglePins, stepMove s.togglePins, stepMove (s.startPins false)] ++ ds.map .block := by
  obtain ⟨ds, hlen, hds⟩ := exists_draws_pulsesMoves s.cfg.val (s.startPins false) (dataBits v)
  obtain ⟨ds', hlen', hds'⟩ := exists_draws_finishMoves s.cfg.val
    (pulsesPins s.cfg.val (s.startPins false) (dataBits v)) s.idx true
  refine ⟨ds ++ ds', ?_, ?_⟩
  · rw [List.length_append, hlen, hlen', bitsCycles, Nat.add_assoc]
    rfl
  · rw [State.acquireMoves_of_ne_nostart (mode := .full) nofun, hds, List.map_append, ← hds']
    rfl

theorem State.length_acquireMoves (s : State) (v : BitVec 24) :
    (s.acquireMoves v .full).length = 3 + bitsCycles s.cfg.val s.idx 24 := by
  obtain ⟨ds, hlen, hds⟩ := s.exists_draws_acquireMoves v
  rw [hds, List.length_append, List.length_map, hlen]
  rfl

/-- The first three steps see the transition and the start condition, and have all 24 bits to come. -/
theorem exists_runs_start (hst : s.st = Ctrl.edgePoll) (hf : s.fault = none) (h : s.idx.toNat < batchN) :
    ∃ t, Runs [stepMove s.togglePins, stepMove s.togglePins, stepMove (s.startPins false)] s t ∧
      t.Returns (bitsCycles s.cfg.val s.idx 24) := by
  have hrun : RunsTo ([stepMove s.togglePins, stepMove s.togglePins] ++ [stepMove (s.startPins false)]) s { s with
      prev := !s.prev, out := s.out &&& ~~~s.clkMask, acc := 0#32, n := 0#5, st := Ctrl.clkRise } :=
    (runsTo_trigger hst hf).append fun _ _ _ => runsTo_startTest_low rfl hf (s.startPins_startBit false)
  obtain ⟨dly, d, k, hrun⟩ := hrun
  exact ⟨_, hrun, hf, .clkRise, rfl, .clkRise 23 rfl h rfl⟩

/-- Between its first and its last cycle an acquisition is outside EDGE_POLL: the first two steps lead to CLK_IDLE_LOW and
START_TEST, and from the third on there are cycles left. -/
theorem exists_runMoves_take {v : BitVec 24} (hst : s.st = Ctrl.edgePoll) (hf : s.fault = none) (h : s.idx.toNat < batchN)
    {k : Nat} (hpos : 0 < k) (hlt : k < (s.acquireMoves v .full).length) :
    ∃ t, runMoves ((s.acquireMoves v .full).take k) s = .next t ∧ t.st ≠ Ctrl.edgePoll := by
  rw [s.length_acquireMoves v] at hlt
  obtain ⟨ds, hlen, hds⟩ := s.exists_draws_acquireMoves v
  rw [hds]
  match k with
  | 1 =>
    obtain ⟨_, _, _, hrun⟩ := runsTo_edgePoll (d := stepDraws s.togglePins) hst hf
      (setPin_bit_self _ (Config.ctrlBit_lt s.cfg) _)
    exact ⟨_, hrun.runMoves_eq, show Ctrl.clkIdleLow ≠ Ctrl.edgePoll by decide⟩
  | 2 =>
    obtain ⟨_, _, _, hrun⟩ := runsTo_trigger hst hf
    exact ⟨_, hrun.runMoves_eq, show Ctrl.startTest ≠ Ctrl.edgePoll by decide⟩
  | k + 3 =>
    obtain ⟨t, hstart, ht⟩ := exists_runs_start hst hf h
    have hleft : bitsCycles s.cfg.val s.idx 24 = (ds.take k).length + (ds.length - k) := by
      rw [List.length_take]
      omega
    obtain ⟨u, hrest, hu⟩ := State.Returns.exists_runs (hleft ▸ ht)
    refine ⟨u, ?_, hu.st_ne (by omega)⟩
    rw [← (hstart.append hrest).runMoves_eq, List.map_take]
    rfl

/-- Settles O58: the moves are block steps, of which each one after the third takes one of the cycles left, and they are those
of O56, which end in EDGE_POLL. -/
theorem acquisitionTakesTheseCycles : Obligations.AcquisitionTakesTheseCycles := by
  refine ⟨fun s v => ?_, fun s v hst hf h => ⟨fun k => exists_runMoves_take hst hf h, ?_⟩⟩
  · simp only [s.length_acquireMoves v, bitsCycles, bitCycles, storeCycles, batchN]
    split <;> split <;> omega
  · obtain ⟨_, _, _, hrun⟩ := runsTo_acquireMoves (v := v) (mode := .full) nofun hst hf h
    exact ⟨_, hrun.runMoves_eq, rfl⟩

end Sys2Proof.Machine
end

section
/-!
PROOFS. EMIT and SEND, one by one, and a batch of ten acquisitions (`spec/44_batch_dispatch.md` rules R200 to R205): the samples
stored so far stand at the start of the batch, and the tenth makes it full.
-/

namespace Sys2Proof.Machine

variable {s t : State}

/-! ## EMIT and SEND -/

theorem exec_emit_of_not_lt (h : ¬ s.idx.toNat < batchN) : exec .emit s = .next (s.raise (.badIndex s.idx)) :=
  congrArg Host.Outcome.next (dif_neg h)

theorem exec_send_of_not_full (h : s.idx.toNat ≠ batchN) : exec .send s = .next (s.raise (.badIndex s.idx)) :=
  congrArg Host.Outcome.next (if_neg h)

/-- Settles O31: the entry stored is the tenth exactly where the index was 9. -/
theorem emitStoresTheSample : Obligations.EmitStoresTheSample := by
  refine fun s => ⟨fun h => ?_, fun h => exec_emit_of_not_lt (Nat.not_lt.mpr h)⟩
  rw [exec_emit_of_lt h]
  simp only [idx_succ_eq_batchN_iff]

/-- Settles O32: `txAccepts` says that the transport takes the message and that TXQ has room for it. -/
theorem sendEnqueuesTheReplyOrDropsIt : Obligations.SendEnqueuesTheReplyOrDropsIt := by
  refine fun s => ⟨fun h => ?_, fun h => exec_send_of_not_full fun hfull => h (BitVec.eq_of_toNat_eq hfull)⟩
  rw [exec_send_of_full (congrArg BitVec.toNat h)]
  simp only [State.txAccepts, State.reply, Bool.and_eq_true, decide_eq_true_eq]

/-! ## A batch being filled -/

/-- `t` is back in EDGE_POLL with the values `vs` stored from the start of its batch, and has sent nothing since `s`. -/
structure State.Filled (s : State) (vs : List (BitVec 24)) (t : State) : Prop where
  st : t.st = Ctrl.edgePoll
  noFault : t.fault = none
  idx : t.idx.toNat = vs.length
  batch : vs.map (·.signExtend 32) <+: t.batch.toList
  cfg : t.cfg = s.cfg
  recSrc : t.recSrc = s.recSrc
  recDst : t.recDst = s.recDst
  txq : t.txq = s.txq
  hostInbox : t.hostInbox = s.hostInbox

/-- A word stored right after the words that start the batch lengthens them by one. -/
theorem append_isPrefix_set {b : Vector Word 10} {ws : List Word} {i : Nat} (hws : ws <+: b.toList) (hi : i = ws.length)
    (h : i < 10) (w : Word) : ws ++ [w] <+: (b.set i w h).toList := by
  obtain ⟨rest, hrest⟩ := hws
  subst hi
  rw [Vector.toList_set, ← hrest, List.set_append_right _ _ le_rfl, Nat.sub_self]
  cases rest with
  | nil =>
    have hlen := congrArg List.length hrest
    rw [List.append_nil, Vector.length_toList] at hlen
    omega
  | cons x rest => exact ⟨rest, List.append_assoc ..⟩

theorem State.Filled.append_isPrefix {vs : List (BitVec 24)} (ht : s.Filled vs t) (h : t.idx.toNat < 10) (v : BitVec 24) :
    (vs ++ [v]).map (·.signExtend 32) <+: (t.batch.set t.idx.toNat (v.signExtend 32) h).toList := by
  rw [List.map_append]
  exact append_isPrefix_set ht.batch (ht.idx.trans (List.length_map _).symm) h _

/-- The payload of a batch that ten values fill is their sign extensions in order (rule R203). -/
theorem payloadOf_of_isPrefix {b : Vector Word 10} {vs : List (BitVec 24)} (hlen : vs.length = 10)
    (hvs : vs.map (·.signExtend 32) <+: b.toList) : payloadOf b = vs.flatMap fun x => wordBytes (x.signExtend 32) := by
  have hfull : vs.map (·.signExtend 32) = b.toList :=
    hvs.eq_of_length (by rw [List.length_map, hlen, Vector.length_toList])
  rw [payloadOf, ← hfull, List.flatMap_map]

/-! ## The `acquire` lines of a script -/

/-- An `acquire` line leads to `State.acquired`, from which the lines after it run. -/
theorem exists_runLines_acquire {v : BitVec 24} {mode : AcquireMode} (hmode : mode ≠ .nostart) (hst : s.st = Ctrl.edgePoll)
    (hf : s.fault = none) (h : s.idx.toNat < 10) (ls : List ScriptLine) :
    ∃ dly d k, runLines (.acquire v mode :: ls) s =
      runLines ls { s.acquired v h (mode != .txFail) with dly := dly, draws := d, tick := k } := by
  obtain ⟨dly, d, k, hrun⟩ := runsTo_acquireMoves (v := v) hmode hst hf h
  refine ⟨dly, d, k, ?_⟩
  rw [runLines, State.expand, hrun.runMoves_eq]

/-- An acquisition that is not the tenth stores one more value and sends nothing. -/
theorem State.Filled.acquired {vs : List (BitVec 24)} (ht : s.Filled vs t) (hlen : vs.length < 9) (v : BitVec 24)
    (h : t.idx.toNat < 10) (txOk : Bool) (dly : Word) (d : Draws) (k : Nat) :
    s.Filled (vs ++ [v]) { t.acquired v h txOk with dly := dly, draws := d, tick := k } := by
  have hidx := ht.idx
  have h9 : t.idx ≠ 9#4 := fun h9 => by simp [h9] at hidx; omega
  rw [State.acquired, State.stored_of_not_tenth h9]
  refine ⟨rfl, ht.noFault, ?_, ht.append_isPrefix h v, ht.cfg, ht.recSrc, ht.recDst, ht.txq, ht.hostInbox⟩
  rw [List.length_append, List.length_singleton]
  show (t.idx + 1#4).toNat = _
  bv_omega

/-- The lines of up to nine values in all, by induction on those still to come. -/
theorem State.Filled.exists_runLines {ws vs : List (BitVec 24)} (ht : s.Filled ws t) (hlen : ws.length + vs.length ≤ 9)
    (ls : List ScriptLine) :
    ∃ u, runLines (vs.map (ScriptLine.acquire · .full) ++ ls) t = runLines ls u ∧ s.Filled (ws ++ vs) u := by
  induction vs generalizing ws t with
  | nil => exact ⟨t, rfl, by rwa [List.append_nil]⟩
  | cons v vs ih =>
    rw [List.length_cons] at hlen
    have h : t.idx.toNat < 10 := by rw [ht.idx]; omega
    obtain ⟨dly, d, k, hline⟩ := exists_runLines_acquire (v := v) (mode := .full) nofun ht.st ht.noFault h
      (vs.map (ScriptLine.acquire · .full) ++ ls)
    obtain ⟨u, hrun, hu⟩ := ih (ht.acquired (by omega) v h _ dly d k) (by simp; omega)
    exact ⟨u, hline.trans hrun, by rwa [List.append_assoc] at hu⟩

/-- Settles O60: nine lines leave the first nine values in the batch, and the tenth line fills and sends it. -/
theorem tenAcquisitionsSendOneBatch : Obligations.TenAcquisitionsSendOneBatch := by
  intro s vs v m hlen hm hst hf hidx hroom
  have hempty : s.Filled [] s := ⟨hst, hf, by rw [hidx]; rfl, ⟨_, rfl⟩, rfl, rfl, rfl, rfl, rfl⟩
  obtain ⟨t, hnine, ht⟩ := hempty.exists_runLines (vs := vs) (by simp [hlen]) [.acquire v m]
  rw [List.nil_append] at ht
  have h9 : t.idx = 9#4 := BitVec.eq_of_toNat_eq (ht.idx.trans hlen)
  have h : t.idx.toNat < 10 := by rw [h9]; decide
  obtain ⟨dly, d, k, htenth⟩ := exists_runLines_acquire (v := v) hm ht.st ht.noFault h []
  have hpayload := payloadOf_of_isPrefix (by simp [hlen]) (ht.append_isPrefix h v)
  rw [State.acquired, State.stored_of_tenth h9, hpayload, ht.cfg, ht.txq, ht.recSrc, ht.recDst] at htenth
  refine ⟨_, hnine.trans htenth, rfl, rfl, ht.hostInbox, ?_⟩
  cases m with
  | nostart => exact absurd rfl hm
  | full => simp [hroom]
  | txFail => simp

end Sys2Proof.Machine
end

section
/-!
PROOFS. The host's actions (`spec/45_host_environment.md` rules R220 to R224): the exact effect of each.
-/

namespace Sys2Proof.Machine

/-- Settles O34: each of the two actions is one write. -/
theorem hostWritesStatusAndKick : Obligations.HostWritesStatusAndKick := fun _ _ => ⟨rfl, rfl⟩

/-- Settles O35: the room in RXQ that H_PUSH tests is that of the statement. -/
theorem hostPushAppendsIfRoom : Obligations.HostPushAppendsIfRoom := fun _ _ _ _ => rfl

/-- Settles O36, by the two forms of TXQ. -/
theorem hostPopTakesTheHead : Obligations.HostPopTakesTheHead := by
  refine ⟨fun s m rest hq => ?_, fun s hq => ?_⟩
  · rw [exec, execHPop, hq]
    rfl
  · rw [exec, execHPop, hq]

/-- Settles O37: the values are those that H_RESET draws at this move. -/
theorem resetSetsTheBlock : Obligations.ResetSetsTheBlock := fun s => ⟨Config.resetDraw s.tick, rfl⟩

end Sys2Proof.Machine
end

section
/-!
PROOFS. An acquisition under any draws (`spec/45_host_environment.md` rule R226, `spec/43_sampler.md` rule R179). Its block steps are
cut into windows of consecutive cycles, `blocksFrom ds a k`; each part of the acquisition is the run of one window, and the
converter's duties say what the draws at three kinds of its cycles are.
-/

namespace Sys2Proof.Machine

/-! ## Windows of cycles -/

/-- The `k` block steps from cycle `a` on. -/
def blocksFrom (ds : Nat → Draws) (a k : Nat) : List Move := ((List.range' a k).map ds).map .block

theorem blockMoves_eq_blocksFrom (ds : Nat → Draws) (k : Nat) : blockMoves ds k = blocksFrom ds 0 k := by
  rw [blockMoves, blocksFrom, List.map_map, List.range_eq_range']
  rfl

theorem blocksFrom_add (ds : Nat → Draws) (a k l : Nat) :
    blocksFrom ds a (k + l) = blocksFrom ds a k ++ blocksFrom ds (a + k) l := by
  simp only [blocksFrom, ← List.map_append, List.range'_append_1]

/-- The levels of the data pin at the SHIFT_IN of each of `m` pulses, the first of which starts at cycle `a` (rule R179). -/
def dataLevels (c : RawConfig) (ds : Nat → Draws) (a m : Nat) : List Bool :=
  (List.range m).map fun j => (ds (a + j * bitCycles c + (c.tHi.toNat + 1))).pins.bit c.dataBit

theorem dataLevels_succ (c : RawConfig) (ds : Nat → Draws) (a m : Nat) :
    dataLevels c ds a (m + 1) =
      (ds (a + (c.tHi.toNat + 1))).pins.bit c.dataBit :: dataLevels c ds (a + bitCycles c) m := by
  simp only [dataLevels, List.range_succ_eq_map, List.map_cons, List.map_map, Nat.zero_mul, Nat.add_zero]
  refine congrArg (_ :: ·) (List.map_congr_left fun j _ => ?_)
  rw [Function.comp_apply, Nat.succ_mul, Nat.add_comm (j * bitCycles c), ← Nat.add_assoc a]

theorem ConverterDuties.dataLevels_eq {c : RawConfig} {prev : Bool} {v : BitVec 24} {ds : Nat → Draws}
    (hd : ConverterDuties c prev v ds) : dataLevels c ds 3 24 = dataBits v :=
  List.map_congr_left fun j hj => hd.holds j (List.mem_range.mp hj)

variable {s : State} {ds : Nat → Draws} {a : Nat}

/-! ## The parts of an acquisition -/

theorem runsTo_start_window (hst : s.st = Ctrl.edgePoll) (hf : s.fault = none)
    (hctrl : (ds 0).pins.bit s.cfg.val.ctrlBit = !s.prev) (hstart : (ds 2).pins.bit s.cfg.val.startBit = false) :
    RunsTo (blocksFrom ds 0 3) s { s with
      prev := !s.prev, out := s.out &&& ~~~s.clkMask, acc := 0#32, n := 0#5, st := Ctrl.clkRise } :=
  .cons (runsTo_edgePoll hst hf hctrl) fun _ _ _ =>
    .cons (runsTo_clkIdleLow rfl hf) fun _ _ _ => runsTo_startTest_low rfl hf hstart

theorem blocksFrom_bitCycles (c : RawConfig) (ds : Nat → Draws) (a : Nat) :
    blocksFrom ds a (bitCycles c) =
      .block (ds a) :: ((List.range' (a + 1) c.tHi.toNat).map ds).map .block ++ .block (ds (a + (c.tHi.toNat + 1))) ::
        .block (ds (a + (c.tHi.toNat + 2))) :: ((List.range' (a + (c.tHi.toNat + 3)) c.tLo.toNat).map ds).map .block := by
  have hcycles : bitCycles c = (c.tHi.toNat + 1) + (c.tLo.toNat + 1 + 1) := by
    rw [bitCycles]
    omega
  rw [hcycles, blocksFrom_add]
  rfl

theorem runsTo_pulse_window {c : Ctrl} (hst : s.st = Ctrl.clkRise) (hf : s.fault = none)
    (hlow : s.out &&& ~~~s.clkMask = s.out) (hc : afterLo (s.n + 1#5) = .ok c) :
    RunsTo (blocksFrom ds a (bitCycles s.cfg.val)) s { s with
      acc := s.acc.shl32 1 ||| Word.ofBit ((ds (a + (s.cfg.val.tHi.toNat + 1))).pins.bit s.cfg.val.dataBit)
      n := s.n + 1#5, st := c } := by
  rw [blocksFrom_bitCycles]
  exact runsTo_pulse hst hf hlow (by simp) (by simp) hc

/-- The `m` pulses that are still missing, in a state that the bit counter has chosen by `after_lo()`, shift in the levels of
the data pin at their SHIFT_IN; by induction on `m`. -/
theorem runsTo_pulses_window {m : Nat} (hn : s.n.toNat + m = 24) (hst : afterLo s.n = .ok s.st) (hf : s.fault = none)
    (hlow : s.out &&& ~~~s.clkMask = s.out) :
    RunsTo (blocksFrom ds a (m * bitCycles s.cfg.val)) s { s with
      acc := shiftBits s.acc (dataLevels s.cfg.val ds a m), n := 24#5, st := Ctrl.signExt } := by
  induction m generalizing s a with
  | zero =>
    rw [Nat.zero_mul]
    exact runsTo_pulsesMoves (bs := []) (pins := 0#32) hn hst hf hlow
  | succ m ih =>
    have hlen : (s.n + 1#5).toNat + m = 24 := by bv_omega
    obtain ⟨c, hc⟩ := exists_afterLo (n := s.n + 1#5) (by omega)
    have hst : s.st = Ctrl.clkRise := Except.ok.inj (hst.symm.trans (afterLo_of_lt (by omega)))
    rw [Nat.succ_mul, Nat.add_comm, blocksFrom_add, dataLevels_succ]
    exact (runsTo_pulse_window hst hf hlow hc).append fun dly d k =>
      ih (s := { s with acc := _, n := s.n + 1#5, st := c, dly := dly, draws := d, tick := k }) hlen hc hf hlow

theorem runsTo_word_window {v : BitVec 24} (hst : s.st = Ctrl.clkRise) (hf : s.fault = none)
    (hlow : s.out &&& ~~~s.clkMask = s.out) (hacc : s.acc = 0#32) (hn : s.n = 0#5)
    (hdata : dataLevels s.cfg.val ds a 24 = dataBits v) :
    RunsTo (blocksFrom ds a (24 * bitCycles s.cfg.val)) s { s with
      acc := v.setWidth 32, n := 24#5, st := Ctrl.signExt } := by
  rw [← shiftBits_dataBits, ← hacc, ← hdata]
  exact runsTo_pulses_window (by rw [hn]; rfl) (by rw [hn, hst]; rfl) hf hlow

theorem blocksFrom_store (ds : Nat → Draws) (a : Nat) (p : Prop) [Decidable p] :
    blocksFrom ds a (2 + if p then 1 else 0) =
      [.block (ds a), .block (ds (a + 1))] ++ if p then [.block (ds (a + 2))] else [] := by
  split <;> rfl

/-- SIGN_EXT, EMIT, SEND where the batch is full, and the strobe; the transport is asked at the cycle of SEND. -/
theorem runsTo_finish_window (hst : s.st = Ctrl.signExt) (hf : s.fault = none) (h : s.idx.toNat < 10) :
    RunsTo (blocksFrom ds a (1 + storeCycles s.cfg.val s.idx)) s
      { s.stored s.acc.sext24 h (ds (a + 2)).txOk with out := s.out &&& ~~~s.stbMask, st := Ctrl.edgePoll } := by
  have hcycles : 1 + storeCycles s.cfg.val s.idx =
      (2 + if s.idx.toNat + 1 = batchN then 1 else 0) + (s.cfg.val.tStb.toNat + 1 + 1) := by
    rw [storeCycles]
    omega
  rw [hcycles, blocksFrom_add, blocksFrom_store, blocksFrom_add]
  exact (runsTo_store hst hf h).append fun _ _ _ => runsTo_strobe rfl hf (by simp [State.stored])

/-! ## The whole acquisition -/

theorem acquisitionCycles_eq (c : RawConfig) (idx : BitVec 4) :
    acquisitionCycles c (idx == 9#4) = 3 + (24 * bitCycles c + (1 + storeCycles c idx)) := by
  simp only [acquisitionCycles, storeCycles, idx_succ_eq_batchN_iff, beq_iff_eq]
  omega

/-- With the converter's duties done, an acquisition under any draws ends as that of an `acquire` line does. -/
theorem runsTo_acquired_of_duties {v : BitVec 24} (hst : s.st = Ctrl.edgePoll) (hf : s.fault = none)
    (h : s.idx.toNat < 10) (hd : ConverterDuties s.cfg.val s.prev v ds) :
    RunsTo (blockMoves ds (acquisitionCycles s.cfg.val (s.idx == 9#4))) s
      (s.acquired v h (ds (5 + 24 * bitCycles s.cfg.val)).txOk) := by
  have hsend : 5 + 24 * bitCycles s.cfg.val = 0 + 3 + 24 * bitCycles s.cfg.val + 2 := by omega
  rw [blockMoves_eq_blocksFrom, acquisitionCycles_eq, blocksFrom_add, blocksFrom_add, State.acquired, ← sext24_setWidth,
    hsend]
  refine (runsTo_start_window hst hf hd.toggles hd.starts).append fun dly d k => ?_
  refine (runsTo_word_window (s := { s with
    prev := !s.prev, out := s.out &&& ~~~s.clkMask, acc := 0#32, n := 0#5, st := Ctrl.clkRise
    dly := dly, draws := d, tick := k }) rfl hf (and_and_self_right _ _) rfl rfl hd.dataLevels_eq).append fun dly d k => ?_
  exact runsTo_finish_window (s := { s with
    prev := !s.prev, out := s.out &&& ~~~s.clkMask, acc := v.setWidth 32, n := 24#5, st := Ctrl.signExt
    dly := dly, draws := d, tick := k }) rfl hf h

/-- Settles O57: the block steps lead to `State.acquired`, which has these registers. -/
theorem converterDutiesGiveTheSample : Obligations.ConverterDutiesGiveTheSample := by
  intro s v ds h hst hf hd
  obtain ⟨dly, d, k, hrun⟩ := runsTo_acquired_of_duties hst hf h hd
  exact ⟨_, hrun.runMoves_eq, rfl, hf, rfl, rfl, rfl, rfl, rfl, rfl, rfl, rfl, rfl⟩

end Sys2Proof.Machine
end

section
/-!
PROOFS. A block stopped by a fault (`spec/60_exceptions.md` rule R242): it has no step, and no action of the host clears the
record.
-/

namespace Sys2Proof.Machine

/-- The host's actions, H_RESET included, leave the fault record as it is (rules R225, R242 and R260). -/
theorem Effect.fault_eq_of_host {s t : State} {i : Instr} {c : BitVec 3} {args : HostArgs} (he : Effect s i t)
    (hcode : encode i = .hostEv3 c args) : t.fault = s.fault := by
  cases he with
  | hStatus | hKick | hPushRoom | hPushFull | hPopHead | hPopEmpty | hReset => rfl
  | _ => cases hcode

/-- An existing host action gives a next state in every state of the block, and keeps the fault record. -/
theorem exists_hostMove_keeps_fault {c : BitVec 3} {args : HostArgs} (hexists : hostEventExists c args = true) (s : State) :
    ∃ t, runMove (.host c args) s = .next t ∧ t.fault = s.fault := by
  obtain ⟨i, hcode⟩ := exists_encode_of_hostEventExists hexists
  obtain ⟨t, ht⟩ := exists_exec_eq_next i s
  exact ⟨t, (hostMove_of_encode hcode s).trans ht, (exec_effect ht).fault_eq_of_host hcode⟩

/-- Settles O7: the fault record stops the block step, and the host's actions take place and keep it. -/
theorem stoppedBlockHasNoStep : Obligations.StoppedBlockHasNoStep := by
  refine ⟨fun _ _ => rfl, fun s r hf => ⟨blockStep_of_fault hf, fun c args hexists => ?_⟩⟩
  obtain ⟨t, hmove, hkeep⟩ := exists_hostMove_keeps_fault hexists s
  exact ⟨t, hmove, hkeep.trans hf⟩

end Sys2Proof.Machine
end

section
/-!
PROOFS. The draws of a block step (`spec/60_exceptions.md` rule R245 (a)): an operation does not notice other draws that agree
with the latched ones in what it reads.
-/

namespace Sys2Proof.Machine

/-- The snapshot shows the pins to EDGE_POLL, START_TEST and SHIFT_IN, and the latch to KICK_POLL (rule R8, `kick_distinct`). -/
theorem unnoticed_draws {i : Instr} {s : State} {d : Draws}
    (hpins : d.pins = s.draws.pins ∨ (i ≠ .edgePoll ∧ i ≠ .startTest ∧ i ≠ .shiftIn))
    (hann : d.annOk = s.draws.annOk ∨ (i ≠ .hsAnn0 ∧ i ≠ .hsAnn1)) (htx : d.txOk = s.draws.txOk ∨ i ≠ .send) :
    Unnoticed { draws := fun _ => d } i s where
  ready _ := rfl
  annOk h := hann.resolve_right fun ⟨hne0, hne1⟩ => h.elim hne0 hne1
  inKick _ := (State.inKick_eq_kick _).trans s.inKick_eq_kick.symm
  inCtrl h := (State.inCtrl_eq_pin _).trans
    ((congrArg (Word.bit · _) (hpins.resolve_right fun ⟨hne, _, _⟩ => hne h)).trans s.inCtrl_eq_pin.symm)
  inStart h := (State.inStart_eq_pin _).trans
    ((congrArg (Word.bit · _) (hpins.resolve_right fun ⟨_, hne, _⟩ => hne h)).trans s.inStart_eq_pin.symm)
  inData h := (State.inData_eq_pin _).trans
    ((congrArg (Word.bit · _) (hpins.resolve_right fun ⟨_, _, hne⟩ => hne h)).trans s.inData_eq_pin.symm)
  txOk h := htx.resolve_right fun hne => hne h
  kick _ _ := rfl
  hostStatus _ _ := rfl

/-- Settles O45: an operation does not notice a change of the draws it does not read. -/
theorem drawsReachOnlyTheirOperations : Obligations.DrawsReachOnlyTheirOperations :=
  fun _ _ _ hpins hann htx => (unnoticed_draws hpins hann htx).exists_exec

end Sys2Proof.Machine
end

section
/-!
PROOFS. No run from a launch state faults (`spec/60_exceptions.md` rule R241): the launch state meets the invariant, and every
well-formed move from a state that meets it takes place and keeps it.
-/

namespace Sys2Proof.Machine

variable {s : State}

/-- A launch state is at HS_WAIT with an empty batch and empty queues (rules R260 and R262). -/
theorem State.launch_inv (c : Config) (prev kick : Bool) (v : Byte) : (State.launch c prev kick v).Inv :=
  State.DataInv.goto_inv (s := State.launch c prev kick v) (c := Ctrl.hsWait)
    ⟨rfl, nofun, nofun, Nat.zero_le _, Nat.zero_le _⟩ (.idle (by decide) (by decide) (Nat.zero_le 9))

theorem exists_encode_of_legal (h : s.legal) : ∃ i, encode i = .state5 s.st := by
  cases hdec : decodeState5 s.st with
  | ok i => exact ⟨i, encode_of_decodeState5 hdec⟩
  | error e => exact absurd h (Nat.not_le.mpr (reserved_of_decodeState5 hdec))

/-- From a state that meets the invariant every well-formed move takes place and keeps it (rules R117 and R241). -/
theorem State.Inv.exists_runMove {m : Move} (hs : s.Inv) (hwf : m.wellFormed = true) :
    ∃ t, runMove m s = .next t ∧ t.Inv := by
  cases m with
  | block d =>
    obtain ⟨i, hcode⟩ := exists_encode_of_legal hs.legal
    obtain ⟨t, ht⟩ := exists_exec_eq_next i (s.withDraws d)
    exact ⟨t, (blockStep_of_encode hcode hs.noFault d).trans ht,
      (exec_effect ht).keeps_inv { hs with } fun _ hc => Code.state5.inj (hcode.symm.trans hc)⟩
  | host c args =>
    obtain ⟨i, hcode⟩ := exists_encode_of_hostEventExists hwf
    obtain ⟨t, ht⟩ := exists_exec_eq_next i s
    exact ⟨t, (hostMove_of_encode hcode s).trans ht,
      (exec_effect ht).keeps_inv hs fun _ hc => nomatch hcode.symm.trans hc⟩

theorem State.Inv.exists_runs {ms : List Move} (hs : s.Inv) (hms : ∀ m ∈ ms, m.wellFormed = true) :
    ∃ t, Runs ms s t ∧ t.Inv := by
  induction ms generalizing s with
  | nil => exact ⟨s, .nil s, hs⟩
  | cons m ms ih =>
    obtain ⟨hwf, htail⟩ := List.forall_mem_cons.mp hms
    have hticked : State.Inv { s with tick := s.tick + 1 } := { hs with }
    obtain ⟨t, hmove, ht⟩ := hticked.exists_runMove hwf
    obtain ⟨u, hrest, hu⟩ := ih ht htail
    exact ⟨u, .cons hmove hrest, hu⟩

/-- Settles O50: the launch state meets the invariant, and the moves take place and keep it. -/
theorem noRunFromLaunchFaults : Obligations.NoRunFromLaunchFaults := by
  intro r prev kick v s ms hlaunch hms
  obtain ⟨hadmitted, rfl⟩ := launch_eq_next_iff.mp hlaunch
  obtain ⟨t, hruns, ht⟩ := (State.launch_inv ⟨r, hadmitted⟩ prev kick v).exists_runs hms
  exact ⟨t, hruns.runMoves_eq, ht.noFault, ht⟩

end Sys2Proof.Machine
end

section
/-!
PROOFS. The error conditions of the source (`spec/60_exceptions.md` rule R240), each a case of the operation that meets it.
-/

namespace Sys2Proof.Machine

variable {s : State}

/-- EC1: HS_WAIT stays while the driver is not ready (rule R130). -/
theorem exec_hsWait_of_not_ready (h : s.hostStatus.getLsbD s.cfg.val.readyBit = false) :
    exec .hsWait s = .next { s with st := Ctrl.hsWait } := by
  rw [hsWaitFollowsTheReadyBit s, h]
  rfl

/-- EC2: a refused announcement is retried (rules R131 and R132). -/
theorem exec_announce_of_refused (h : s.draws.annOk = false) :
    exec .hsAnn0 s = .next { s with st := Ctrl.hsAnn0 } ∧ exec .hsAnn1 s = .next { s with st := Ctrl.hsAnn1 } := by
  obtain ⟨hAnn0, hAnn1⟩ := announcementsRetryUntilAccepted s
  rw [hAnn0, hAnn1, h]
  exact ⟨rfl, rfl⟩

/-- EC3: a message that the transport does not take is dropped with its batch (rule R201). -/
theorem exec_send_of_not_taken (hidx : s.idx = 10#4) (h : s.draws.txOk = false ∨ s.cfg.val.txqCap ≤ s.txq.length) :
    exec .send s = .next { s with idx := 0#4, st := Ctrl.stbRise } := by
  have hnot : ¬(s.draws.txOk = true ∧ s.txq.length < s.cfg.val.txqCap) := fun ⟨hok, hroom⟩ =>
    h.elim (fun hno => nomatch hno.symm.trans hok) (Nat.not_le.mpr hroom)
  obtain ⟨hfull, -⟩ := sendEnqueuesTheReplyOrDropsIt s
  rw [hfull hidx, if_neg hnot]

/-- Settles O55: the five conditions are cases of HS_WAIT, the announcements, SEND, DRAIN and START_TEST. -/
theorem errorConditionsAreHandledInPlace : Obligations.ErrorConditionsAreHandledInPlace := fun s =>
  ⟨exec_hsWait_of_not_ready, exec_announce_of_refused, exec_send_of_not_taken, drainTakesTheHeadMessage.1 s,
    fun h => exec_startTest_of_high (s.inStart_eq_pin.trans h)⟩

end Sys2Proof.Machine
end

section
/-!
PROOFS. The state after power-on (`spec/70_reset_and_hazards.md` rules R260 and R262). What holds of every launch state holds of
it, whatever the OPEN parameters of the default configuration and the values drawn at power-on are.
-/

namespace Sys2Proof.Machine

/-- A launch state is at HS_WAIT, where no level of CLK or STB is needed, and OUT is `OUT_INIT` (rules R260 and R276). -/
theorem State.launch_pinLevels (c : Config) (prev kick : Bool) (v : Byte) : (State.launch c prev kick v).PinLevels :=
  State.PinsReady.goto_pinLevels (s := State.launch c prev kick v) (c := Ctrl.hsWait)
    (.free (by decide) (by decide) (by decide)) fun _ _ _ _ => rfl

/-- Settles O38: the launch state is the witness, and `State.reset` is the launch state of the default configuration. -/
theorem launchStateIsAResetState : Obligations.LaunchStateIsAResetState :=
  ⟨fun c prev kick v => ⟨State.launch c prev kick v, rfl, rfl, rfl, rfl, rfl, rfl, rfl, rfl, rfl, rfl⟩,
    Config.powerOnPrev, Config.powerOnKick, Config.launchHostStatus, rfl⟩

/-- Settles O49: the state after power-on is a launch state. -/
theorem resetMeetsTheInvariant : Obligations.ResetMeetsTheInvariant :=
  State.launch_inv Config.default Config.powerOnPrev Config.powerOnKick Config.launchHostStatus

/-- Settles O52: the state after power-on is a launch state. -/
theorem resetMeetsThePinLevels : Obligations.ResetMeetsThePinLevels :=
  State.launch_pinLevels Config.default Config.powerOnPrev Config.powerOnKick Config.launchHostStatus

end Sys2Proof.Machine
end
